-- ==== Sys2Proof/Word.lean ====
section
/-! DEFINITION. The word types of the CRTC timing engine and their plainest arithmetic.
Rules R10 and R12 of spec/00_scope.md: bit 0 is the least significant bit, every register and counter is unsigned and
wraps modulo two to its width. -/

namespace Sys2Proof

/-- A byte of the bus (R75: every bus access is one byte). -/
abbrev Byte := BitVec 8

/-- A display or update address, 14 bits (R73). -/
abbrev Addr := BitVec 14

/-- A register index as the decode key carries it, zero-extended to 6 bits (R91). -/
abbrev Index := BitVec 6

end Sys2Proof
end

