-- ==== Sys2Proof/Config.lean ====
section
/-! DEFINITION. The configuration record `CFG` of R5 (spec/00_scope.md): the parameters of one chip instance, set once
and never mutated, and the spec's two reference configurations (R7). -/

namespace Sys2Proof

/-- The width of the address latch: 5 or 6 bits (R5 `CFG.addr_bits`; R6 admits no other value). -/
inductive AddrWidth where
  | five
  | six
deriving DecidableEq, Repr

/-- The width as a number of bits. -/
def AddrWidth.bits : AddrWidth → Nat
  | .five => 5
  | .six => 6

/-- The configuration record of R5. -/
structure Config where
  /-- `CFG.addr_bits`: width of the address latch. -/
  addrBits : AddrWidth
  /-- `CFG.status_d5`: status bit 5 is implemented. -/
  statusD5 : Bool
  /-- `CFG.status_d6`: status bit 6 is implemented. -/
  statusD6 : Bool
  /-- `CFG.status_d7`: status bit 7 is implemented. -/
  statusD7 : Bool
  /-- `CFG.vsw_field`: CR3 bits 7:4 configure the VSYNC width. -/
  vswField : Bool
  /-- `CFG.transparent`: transparent memory mode, CR18, CR19 and CR31 are implemented. -/
  transparent : Bool
  /-- `CFG.start_readback`: CR12 and CR13 can be read back. -/
  startReadback : Bool
  /-- `CFG.adj_nonint`: raster-height adjust outside interlace-and-video mode. -/
  adjNonint : Nat
  /-- `CFG.adj_int`: raster-height adjust in interlace-and-video mode. -/
  adjInt : Nat
  /-- `CFG.cursor_wrap`: a cursor with start above end wraps. -/
  cursorWrap : Bool
  /-- `CFG.hpix`: pixels per character column. -/
  hpix : Nat
  /-- `CFG.upd_handler`: an update-address-changed consumer is bound. -/
  updHandler : Bool
  /-- `CFG.UPD_DELAY`: character clocks from a blanking-time update request to its address strobe. -/
  updDelay : Nat
deriving DecidableEq, Repr

/-- The reference configuration `CFG_A` of R7. -/
def Config.cfgA : Config :=
  { addrBits := .five, statusD5 := false, statusD6 := false, statusD7 := false, vswField := false,
    transparent := false, startReadback := false, adjNonint := 1, adjInt := 1, cursorWrap := true,
    hpix := 8, updHandler := false, updDelay := 4 }

/-- The reference configuration `CFG_B` of R7. -/
def Config.cfgB : Config :=
  { addrBits := .six, statusD5 := true, statusD6 := true, statusD7 := true, vswField := true,
    transparent := true, startReadback := true, adjNonint := 1, adjInt := 1, cursorWrap := false,
    hpix := 8, updHandler := true, updDelay := 4 }

end Sys2Proof
end

