-- ==== Sys2Proof/Syntax.lean ====
section
/-! DEFINITION. The operations of the block as syntax: one constructor of `Instr` for each row of spec/opcode_table.json
(R103, R104, R105, R121 to R166), and the forms in which an operation reaches the decoder (R90 to R92, R103, R104). -/

namespace Sys2Proof

/-- The internal event tags, one scheduler slot each (R103). -/
inductive Tag where
  | line
  | deOff
  | curOn
  | curOff
  | hsOn
  | hsOff
  | lpen
  | updAdr
  | updTrans
deriving DecidableEq, Repr

/-- The payload of a scheduler slot (R56): an address and a strobe bit. Only `UPD_TRANS` has one; every other tag's
slot carries `Payload.empty`. -/
structure Payload where
  addr : Addr
  strobe : Bool
deriving DecidableEq, Repr

/-- The payload of the tags that have none. -/
def Payload.empty : Payload := { addr := 0, strobe := false }

/-- An operation as the environment issues it. -/
inductive Request where
  /-- A bus transaction, the 10-bit word `T = RS :: RW :: D` of R90. -/
  | bus (t : BitVec 10)
  /-- A pin event or host call: its operation code and its arguments, naturals (R104). -/
  | call (code : BitVec 3) (args : List Nat)
deriving DecidableEq, Repr

/-- What the decoder reads: an operation in one of the formats of R91 and R92. -/
inductive OpWord where
  /-- Format BUS: the 16-bit decode key `K = RS :: RW :: zext_6(AL) :: D` (R91). -/
  | bus (key : BitVec 16)
  /-- Format EVENT: the tag code and the payload held in the slot (R103). -/
  | event (code : BitVec 4) (payload : Payload)
  /-- Formats PIN and HOST: the operation code and the arguments (R104). -/
  | call (code : BitVec 3) (args : List Nat)
deriving DecidableEq, Repr

/-- Why the decoder rejects an operation. No BUS key is ever rejected (R9, R101). -/
inductive DecodeError where
  /-- A tag code that R103 does not define (9 to 15). -/
  | unknownTag (code : BitVec 4)
  /-- An operation code that R104 does not define (6 and 7). -/
  | unknownOp (code : BitVec 3)
  /-- An operation code of R104 with a number of arguments that R104 does not give it. -/
  | argumentCount (code : BitVec 3) (given : Nat)
deriving DecidableEq, Repr

/-- The operations: one constructor for each row of the opcode table. -/
inductive Instr where
  /-- `SEL`: load the address latch (R121). -/
  | sel (d : Byte)
  /-- `RDST`: read the status byte (R122). -/
  | rdst
  /-- `WR.CR0`: write horizontal total (R123). -/
  | wrCr0 (d : Byte)
  /-- `WR.CR1`: write horizontal displayed (R124). -/
  | wrCr1 (d : Byte)
  /-- `WR.CR2`: write horizontal sync position (R125). -/
  | wrCr2 (d : Byte)
  /-- `WR.CR3`: write sync width (R126). -/
  | wrCr3 (d : Byte)
  /-- `WR.CR4`: write vertical total (R127). -/
  | wrCr4 (d : Byte)
  /-- `WR.CR5`: write vertical total adjust (R128). -/
  | wrCr5 (d : Byte)
  /-- `WR.CR6`: write vertical displayed (R129). -/
  | wrCr6 (d : Byte)
  /-- `WR.CR7`: write vertical sync position (R130). -/
  | wrCr7 (d : Byte)
  /-- `WR.CR8`: write mode control (R131). -/
  | wrCr8 (d : Byte)
  /-- `WR.CR9`: write maximum raster address (R132). -/
  | wrCr9 (d : Byte)
  /-- `WR.CR10`: write cursor start raster (R133). -/
  | wrCr10 (d : Byte)
  /-- `WR.CR11`: write cursor end raster (R134). -/
  | wrCr11 (d : Byte)
  /-- `WR.CR12`: write display start high (R135). -/
  | wrCr12 (d : Byte)
  /-- `WR.CR13`: write display start low (R136). -/
  | wrCr13 (d : Byte)
  /-- `WR.CR14`: write cursor address high (R137). -/
  | wrCr14 (d : Byte)
  /-- `WR.CR15`: write cursor address low (R138). -/
  | wrCr15 (d : Byte)
  /-- `WR.CR16`: write light pen high, read-only (R139). -/
  | wrCr16 (d : Byte)
  /-- `WR.CR17`: write light pen low, read-only (R140). -/
  | wrCr17 (d : Byte)
  /-- `WR.CR18`: write update address high (R141). -/
  | wrCr18 (d : Byte)
  /-- `WR.CR19`: write update address low (R142). -/
  | wrCr19 (d : Byte)
  /-- `WR.CR31`: transparent update; the byte is ignored (R143). -/
  | wrCr31 (d : Byte)
  /-- `WR.UNDEF`: write of an undefined index (R144). -/
  | wrUndef (al : Index) (d : Byte)
  /-- `RD.CR0`: read horizontal total (R145). -/
  | rdCr0
  /-- `RD.CR1`: read horizontal displayed (R146). -/
  | rdCr1
  /-- `RD.CR2`: read horizontal sync position (R147). -/
  | rdCr2
  /-- `RD.CR3`: read sync width (R148). -/
  | rdCr3
  /-- `RD.CR4`: read vertical total (R149). -/
  | rdCr4
  /-- `RD.CR5`: read vertical total adjust (R150). -/
  | rdCr5
  /-- `RD.CR6`: read vertical displayed (R151). -/
  | rdCr6
  /-- `RD.CR7`: read vertical sync position (R152). -/
  | rdCr7
  /-- `RD.CR8`: read mode control (R153). -/
  | rdCr8
  /-- `RD.CR9`: read maximum raster address (R154). -/
  | rdCr9
  /-- `RD.CR10`: read cursor start raster (R155). -/
  | rdCr10
  /-- `RD.CR11`: read cursor end raster (R156). -/
  | rdCr11
  /-- `RD.CR12`: read display start high (R157). -/
  | rdCr12
  /-- `RD.CR13`: read display start low (R158). -/
  | rdCr13
  /-- `RD.CR14`: read cursor address high (R159). -/
  | rdCr14
  /-- `RD.CR15`: read cursor address low (R160). -/
  | rdCr15
  /-- `RD.CR16`: read light pen high, read-only (R161). -/
  | rdCr16
  /-- `RD.CR17`: read light pen low, read-only (R162). -/
  | rdCr17
  /-- `RD.CR18`: read update address high (R163). -/
  | rdCr18
  /-- `RD.CR19`: read update address low (R164). -/
  | rdCr19
  /-- `RD.CR31`: transparent update (R165). -/
  | rdCr31
  /-- `RD.UNDEF`: read of an undefined index (R166). -/
  | rdUndef (al : Index)
  /-- `EV.LINE`: the line-boundary tick (R183). -/
  | evLine
  /-- `EV.DE_OFF` (R192). -/
  | evDeOff
  /-- `EV.CUR_ON` (R195). -/
  | evCurOn
  /-- `EV.CUR_OFF` (R196). -/
  | evCurOff
  /-- `EV.HS_ON` (R193). -/
  | evHsOn
  /-- `EV.HS_OFF` (R194). -/
  | evHsOff
  /-- `EV.LPEN` (R271). -/
  | evLpen
  /-- `EV.UPD_ADR` (R275). -/
  | evUpdAdr
  /-- `EV.UPD_TRANS`, with the payload of its slot (R276). -/
  | evUpdTrans (addr : Addr) (strobe : Bool)
  /-- `CLK`: one character clock (R182). -/
  | clk
  /-- `RESET` (R321). -/
  | reset
  /-- `LPSTB`: the light-pen strobe (R270). -/
  | lpstb
  /-- `SCAN y` (R260). -/
  | scan (y : Nat)
  /-- `FRAME y0, y1` (R261). -/
  | frame (y0 y1 : Nat)
  /-- `RESTORE` (R246). -/
  | restore
deriving DecidableEq, Repr

end Sys2Proof
end

