-- ==== Sys2Proof/WellFormed.lean ====
section
/-! DEFINITION. Well-formedness: of a configuration (R6), of an operation (R101, R261; R91 for a given variant) and of a
request of the environment (R104). -/

namespace Sys2Proof

/-- R6: the configuration is well formed. That `CFG.addr_bits` is 5 or 6 holds by its type. -/
def Config.wf (c : Config) : Bool :=
  decide (1 ≤ c.adjNonint) && decide (1 ≤ c.adjInt) && decide (1 ≤ c.hpix) && decide (1 ≤ c.updDelay)
    && (!c.transparent || c.updHandler)

/-- R101: the undefined indices, 20 to 30 and 32 to 63. -/
def undefinedIndex (al : Index) : Bool :=
  decide (20 ≤ al.toNat) && decide (al.toNat ≠ 31)

/-- An operation is well formed: an undefined-index form has an undefined index (R101), and the clip region of `FRAME`
is not empty (R261: `y0 <= y1`). -/
def Instr.wf : Instr → Bool
  | .wrUndef al _ => undefinedIndex al
  | .rdUndef al => undefinedIndex al
  | .frame y0 y1 => decide (y0 ≤ y1)
  | .sel _ | .rdst | .wrCr0 _ | .wrCr1 _ | .wrCr2 _ | .wrCr3 _ | .wrCr4 _ | .wrCr5 _ | .wrCr6 _ | .wrCr7 _
  | .wrCr8 _ | .wrCr9 _ | .wrCr10 _ | .wrCr11 _ | .wrCr12 _ | .wrCr13 _ | .wrCr14 _ | .wrCr15 _ | .wrCr16 _
  | .wrCr17 _ | .wrCr18 _ | .wrCr19 _ | .wrCr31 _ | .rdCr0 | .rdCr1 | .rdCr2 | .rdCr3 | .rdCr4 | .rdCr5
  | .rdCr6 | .rdCr7 | .rdCr8 | .rdCr9 | .rdCr10 | .rdCr11 | .rdCr12 | .rdCr13 | .rdCr14 | .rdCr15 | .rdCr16
  | .rdCr17 | .rdCr18 | .rdCr19 | .rdCr31 | .evLine | .evDeOff | .evCurOn | .evCurOff | .evHsOn | .evHsOff
  | .evLpen | .evUpdAdr | .evUpdTrans _ _ | .clk | .reset | .lpstb | .scan _ | .restore => true

/-- An operation is one that the variant can form: bit 13 of the key is 0 on a 5-bit variant (R91). -/
def Instr.wfFor (c : Config) : Instr → Bool
  | .wrUndef al _ => decide (al.toNat < 2 ^ c.addrBits.bits)
  | .rdUndef al => decide (al.toNat < 2 ^ c.addrBits.bits)
  | .sel _ | .rdst | .wrCr0 _ | .wrCr1 _ | .wrCr2 _ | .wrCr3 _ | .wrCr4 _ | .wrCr5 _ | .wrCr6 _ | .wrCr7 _
  | .wrCr8 _ | .wrCr9 _ | .wrCr10 _ | .wrCr11 _ | .wrCr12 _ | .wrCr13 _ | .wrCr14 _ | .wrCr15 _ | .wrCr16 _
  | .wrCr17 _ | .wrCr18 _ | .wrCr19 _ | .wrCr31 _ | .rdCr0 | .rdCr1 | .rdCr2 | .rdCr3 | .rdCr4 | .rdCr5
  | .rdCr6 | .rdCr7 | .rdCr8 | .rdCr9 | .rdCr10 | .rdCr11 | .rdCr12 | .rdCr13 | .rdCr14 | .rdCr15 | .rdCr16
  | .rdCr17 | .rdCr18 | .rdCr19 | .rdCr31 | .evLine | .evDeOff | .evCurOn | .evCurOff | .evHsOn | .evHsOff
  | .evLpen | .evUpdAdr | .evUpdTrans _ _ | .clk | .reset | .lpstb | .scan _ | .frame _ _ | .restore => true

/-- A request is one that R90 or R104 defines: a pin event or host call has a code below 6 and as many arguments as
R104 gives it. -/
def Request.wf : Request → Bool
  | .bus _ => true
  | .call code args =>
    match code.toNat with
    | 0 | 1 | 2 | 5 => args.length == 0
    | 3 => args.length == 1
    | 4 => args.length == 2
    | _ => false

end Sys2Proof
end

