-- ==== Sys2Proof/Decode.lean ====
section
/-! DEFINITION. The decoder and the encoder, from the encoding tables of spec/30_encoding.md (R90 to R104) and
spec/opcode_table.json. The decoder is total: every BUS key decodes (R9); an EVENT, PIN or HOST code outside R103 and R104
is rejected by name. -/

namespace Sys2Proof

/-! ### Bit fields -/

/-- The decode key `K = RS :: RW :: zext_6(AL) :: D` (R91). -/
def busKey (rs rw : Bool) (al : Index) (d : Byte) : BitVec 16 :=
  BitVec.ofBool rs ++ BitVec.ofBool rw ++ al ++ d

/-- `RS`, bit 15 of the key (R91). -/
def keyRs (k : BitVec 16) : Bool := k.getLsbD 15

/-- `RW`, bit 14 of the key (R91). -/
def keyRw (k : BitVec 16) : Bool := k.getLsbD 14

/-- `AL`, bits 13:8 of the key (R91). -/
def keyAl (k : BitVec 16) : Index := k.extractLsb' 8 6

/-- `D`, bits 7:0 of the key (R91). -/
def keyD (k : BitVec 16) : Byte := k.extractLsb' 0 8

/-- The 10-bit transaction word `T = RS :: RW :: D` (R90). -/
def busWord (rs rw : Bool) (d : Byte) : BitVec 10 :=
  BitVec.ofBool rs ++ BitVec.ofBool rw ++ d

/-- The key of a transaction when the address latch holds `al` (R91). -/
def keyOfWord (al : Index) (t : BitVec 10) : BitVec 16 :=
  busKey (t.getLsbD 9) (t.getLsbD 8) al (t.extractLsb' 0 8)

/-- What the decoder is given for a request when the address latch holds `al` (R91, R92). -/
def Request.toOpWord (al : Index) : Request → OpWord
  | .bus t => .bus (keyOfWord al t)
  | .call code args => .call code args

/-! ### The decoder -/

/-- The data-port write that `AL = al` selects (R93, R101). -/
def decodeWrite (al : Index) (d : Byte) : Instr :=
  match al.toNat with
  | 0 => .wrCr0 d
  | 1 => .wrCr1 d
  | 2 => .wrCr2 d
  | 3 => .wrCr3 d
  | 4 => .wrCr4 d
  | 5 => .wrCr5 d
  | 6 => .wrCr6 d
  | 7 => .wrCr7 d
  | 8 => .wrCr8 d
  | 9 => .wrCr9 d
  | 10 => .wrCr10 d
  | 11 => .wrCr11 d
  | 12 => .wrCr12 d
  | 13 => .wrCr13 d
  | 14 => .wrCr14 d
  | 15 => .wrCr15 d
  | 16 => .wrCr16 d
  | 17 => .wrCr17 d
  | 18 => .wrCr18 d
  | 19 => .wrCr19 d
  | 31 => .wrCr31 d
  | _ => .wrUndef al d

/-- The data-port read that `AL = al` selects (R93, R101). -/
def decodeRead (al : Index) : Instr :=
  match al.toNat with
  | 0 => .rdCr0
  | 1 => .rdCr1
  | 2 => .rdCr2
  | 3 => .rdCr3
  | 4 => .rdCr4
  | 5 => .rdCr5
  | 6 => .rdCr6
  | 7 => .rdCr7
  | 8 => .rdCr8
  | 9 => .rdCr9
  | 10 => .rdCr10
  | 11 => .rdCr11
  | 12 => .rdCr12
  | 13 => .rdCr13
  | 14 => .rdCr14
  | 15 => .rdCr15
  | 16 => .rdCr16
  | 17 => .rdCr17
  | 18 => .rdCr18
  | 19 => .rdCr19
  | 31 => .rdCr31
  | _ => .rdUndef al

/-- Format BUS (R90, R91): the port and the direction, then the index for the data port. -/
def decodeBus (k : BitVec 16) : Instr :=
  match keyRs k, keyRw k with
  | false, false => .sel (keyD k)
  | false, true => .rdst
  | true, false => decodeWrite (keyAl k) (keyD k)
  | true, true => decodeRead (keyAl k)

/-- Format EVENT (R103). Only `UPD_TRANS` has a payload; the payload of another tag is not read. -/
def decodeEvent (code : BitVec 4) (p : Payload) : Except DecodeError Instr :=
  match code.toNat with
  | 0 => .ok .evLine
  | 1 => .ok .evDeOff
  | 2 => .ok .evCurOn
  | 3 => .ok .evCurOff
  | 4 => .ok .evHsOn
  | 5 => .ok .evHsOff
  | 6 => .ok .evLpen
  | 7 => .ok .evUpdAdr
  | 8 => .ok (.evUpdTrans p.addr p.strobe)
  | _ => .error (.unknownTag code)

/-- Formats PIN and HOST (R104). -/
def decodeCall (code : BitVec 3) (args : List Nat) : Except DecodeError Instr :=
  match code.toNat, args with
  | 0, [] => .ok .clk
  | 1, [] => .ok .reset
  | 2, [] => .ok .lpstb
  | 3, [y] => .ok (.scan y)
  | 4, [y0, y1] => .ok (.frame y0 y1)
  | 5, [] => .ok .restore
  | 6, _ => .error (.unknownOp code)
  | 7, _ => .error (.unknownOp code)
  | _, _ => .error (.argumentCount code args.length)

/-- The decoder. -/
def decode : OpWord → Except DecodeError Instr
  | .bus k => .ok (decodeBus k)
  | .event code p => decodeEvent code p
  | .call code args => decodeCall code args

/-! ### The encoder -/

/-- The code of a tag (R103). -/
def Tag.code : Tag → BitVec 4
  | .line => 0
  | .deOff => 1
  | .curOn => 2
  | .curOff => 3
  | .hsOn => 4
  | .hsOff => 5
  | .lpen => 6
  | .updAdr => 7
  | .updTrans => 8

/-- The word of an event that carries no payload. -/
def eventWord (t : Tag) : OpWord := .event t.code Payload.empty

/-- A data-port write of index `n`. -/
def writeWord (n : Index) (d : Byte) : OpWord := .bus (busKey true false n d)

/-- A data-port read of index `n`. The ignored data bits are 0. -/
def readWord (n : Index) : OpWord := .bus (busKey true true n 0)

/-- The encoder, from the same tables. Bits that the encoding does not match or ignores (letters `a` of `SEL` and `RDST`,
letters `u`) are 0. -/
def encode : Instr → OpWord
  | .sel d => .bus (busKey false false 0 d)
  | .rdst => .bus (busKey false true 0 0)
  | .wrCr0 d => writeWord 0 d
  | .wrCr1 d => writeWord 1 d
  | .wrCr2 d => writeWord 2 d
  | .wrCr3 d => writeWord 3 d
  | .wrCr4 d => writeWord 4 d
  | .wrCr5 d => writeWord 5 d
  | .wrCr6 d => writeWord 6 d
  | .wrCr7 d => writeWord 7 d
  | .wrCr8 d => writeWord 8 d
  | .wrCr9 d => writeWord 9 d
  | .wrCr10 d => writeWord 10 d
  | .wrCr11 d => writeWord 11 d
  | .wrCr12 d => writeWord 12 d
  | .wrCr13 d => writeWord 13 d
  | .wrCr14 d => writeWord 14 d
  | .wrCr15 d => writeWord 15 d
  | .wrCr16 d => writeWord 16 d
  | .wrCr17 d => writeWord 17 d
  | .wrCr18 d => writeWord 18 d
  | .wrCr19 d => writeWord 19 d
  | .wrCr31 d => writeWord 31 d
  | .wrUndef al d => writeWord al d
  | .rdCr0 => readWord 0
  | .rdCr1 => readWord 1
  | .rdCr2 => readWord 2
  | .rdCr3 => readWord 3
  | .rdCr4 => readWord 4
  | .rdCr5 => readWord 5
  | .rdCr6 => readWord 6
  | .rdCr7 => readWord 7
  | .rdCr8 => readWord 8
  | .rdCr9 => readWord 9
  | .rdCr10 => readWord 10
  | .rdCr11 => readWord 11
  | .rdCr12 => readWord 12
  | .rdCr13 => readWord 13
  | .rdCr14 => readWord 14
  | .rdCr15 => readWord 15
  | .rdCr16 => readWord 16
  | .rdCr17 => readWord 17
  | .rdCr18 => readWord 18
  | .rdCr19 => readWord 19
  | .rdCr31 => readWord 31
  | .rdUndef al => readWord al
  | .evLine => eventWord .line
  | .evDeOff => eventWord .deOff
  | .evCurOn => eventWord .curOn
  | .evCurOff => eventWord .curOff
  | .evHsOn => eventWord .hsOn
  | .evHsOff => eventWord .hsOff
  | .evLpen => eventWord .lpen
  | .evUpdAdr => eventWord .updAdr
  | .evUpdTrans a b => .event Tag.updTrans.code { addr := a, strobe := b }
  | .clk => .call 0 []
  | .reset => .call 1 []
  | .lpstb => .call 2 []
  | .scan y => .call 3 [y]
  | .frame y0 y1 => .call 4 [y0, y1]
  | .restore => .call 5 []

/-! ### Words numbered as the opcode table numbers them -/

/-- The arguments of an operation code, all 0: as many as R104 gives the code. -/
def zeroArgs (code : BitVec 3) : List Nat :=
  match code.toNat with
  | 3 => [0]
  | 4 => [0, 0]
  | _ => []

/-- The operation word of a row of spec/opcode_table.json whose bits are `w`. A BUS row has 16 bits. The EVENT rows have 4
bits and the PIN and HOST rows 3, and both counts are one whole byte, so a byte from 0 to 5 stands for a row of each table:
it is read as the PIN or HOST code, which is the operation the environment can issue, and a byte from 6 up as the tag
code (DESIGN CHOICE, log 5). With 4 or 3 bits the format is certain. The payload and the arguments, which the table gives no
bits, are 0. -/
def tableWord (nbits w : Nat) : Option OpWord :=
  match nbits with
  | 16 => some (.bus (BitVec.ofNat 16 w))
  | 4 => some (.event (BitVec.ofNat 4 w) Payload.empty)
  | 3 => some (.call (BitVec.ofNat 3 w) (zeroArgs (BitVec.ofNat 3 w)))
  | 8 =>
    if w < 6 then some (.call (BitVec.ofNat 3 w) (zeroArgs (BitVec.ofNat 3 w)))
    else if w < 16 then some (.event (BitVec.ofNat 4 w) Payload.empty)
    else none
  | _ => none

/-- The operation the decoder reads from a word of the opcode table. -/
def decodeTableWord (nbits w : Nat) : Option Instr :=
  match tableWord nbits w with
  | some word =>
    match decode word with
    | .ok i => some i
    | .error _ => none
  | none => none

/-! ### Mnemonics -/

/-- The mnemonic of an operation (R105), as spec/opcode_table.json spells it. -/
def Instr.mnemonic : Instr → String
  | .sel _ => "SEL"
  | .rdst => "RDST"
  | .wrCr0 _ => "WR.CR0"
  | .wrCr1 _ => "WR.CR1"
  | .wrCr2 _ => "WR.CR2"
  | .wrCr3 _ => "WR.CR3"
  | .wrCr4 _ => "WR.CR4"
  | .wrCr5 _ => "WR.CR5"
  | .wrCr6 _ => "WR.CR6"
  | .wrCr7 _ => "WR.CR7"
  | .wrCr8 _ => "WR.CR8"
  | .wrCr9 _ => "WR.CR9"
  | .wrCr10 _ => "WR.CR10"
  | .wrCr11 _ => "WR.CR11"
  | .wrCr12 _ => "WR.CR12"
  | .wrCr13 _ => "WR.CR13"
  | .wrCr14 _ => "WR.CR14"
  | .wrCr15 _ => "WR.CR15"
  | .wrCr16 _ => "WR.CR16"
  | .wrCr17 _ => "WR.CR17"
  | .wrCr18 _ => "WR.CR18"
  | .wrCr19 _ => "WR.CR19"
  | .wrCr31 _ => "WR.CR31"
  | .wrUndef _ _ => "WR.UNDEF"
  | .rdCr0 => "RD.CR0"
  | .rdCr1 => "RD.CR1"
  | .rdCr2 => "RD.CR2"
  | .rdCr3 => "RD.CR3"
  | .rdCr4 => "RD.CR4"
  | .rdCr5 => "RD.CR5"
  | .rdCr6 => "RD.CR6"
  | .rdCr7 => "RD.CR7"
  | .rdCr8 => "RD.CR8"
  | .rdCr9 => "RD.CR9"
  | .rdCr10 => "RD.CR10"
  | .rdCr11 => "RD.CR11"
  | .rdCr12 => "RD.CR12"
  | .rdCr13 => "RD.CR13"
  | .rdCr14 => "RD.CR14"
  | .rdCr15 => "RD.CR15"
  | .rdCr16 => "RD.CR16"
  | .rdCr17 => "RD.CR17"
  | .rdCr18 => "RD.CR18"
  | .rdCr19 => "RD.CR19"
  | .rdCr31 => "RD.CR31"
  | .rdUndef _ => "RD.UNDEF"
  | .evLine => "EV.LINE"
  | .evDeOff => "EV.DE_OFF"
  | .evCurOn => "EV.CUR_ON"
  | .evCurOff => "EV.CUR_OFF"
  | .evHsOn => "EV.HS_ON"
  | .evHsOff => "EV.HS_OFF"
  | .evLpen => "EV.LPEN"
  | .evUpdAdr => "EV.UPD_ADR"
  | .evUpdTrans _ _ => "EV.UPD_TRANS"
  | .clk => "CLK"
  | .reset => "RESET"
  | .lpstb => "LPSTB"
  | .scan _ => "SCAN"
  | .frame _ _ => "FRAME"
  | .restore => "RESTORE"

/-! ### Pseudo-operations (R106) -/

/-- The bus transaction `SEL n`. -/
def reqSel (n : Byte) : Request := .bus (busWord false false n)

/-- The bus transaction `RDST`. -/
def reqRdst : Request := .bus (busWord false true 0)

/-- The bus transaction `WR d`. -/
def reqWr (d : Byte) : Request := .bus (busWord true false d)

/-- The bus transaction `RD`. -/
def reqRd : Request := .bus (busWord true true 0)

/-- The pseudo-operation `W n, d`. -/
def reqW (n d : Byte) : List Request := [reqSel n, reqWr d]

/-- The pseudo-operation `R n`. -/
def reqR (n : Byte) : List Request := [reqSel n, reqRd]

/-- The pseudo-operation `WP n, v`. -/
def reqWP (n : Byte) (v : Addr) : List Request :=
  reqW n ((v.extractLsb' 8 6).setWidth 8) ++ reqW (n + 1) (v.extractLsb' 0 8)

/-- The pseudo-operation `RP n`. The value of the two bytes read is `Machine.pairValue`. -/
def reqRP (n : Byte) : List Request := reqR n ++ reqR (n + 1)

/-- The requests `CLK k`: `CLK` repeated `k` times (R105). The pseudo-operation `LINE` is this with the count
`Machine.State.lineClocks`, which depends on the state: `Machine.State.reqLine`. -/
def reqClk (k : Nat) : List Request := List.replicate k (.call 0 [])

/-- The request that issues a bus transaction, pin event or host call; an internal event has none (R103: it is fired by
its slot). -/
def Instr.request (i : Instr) : Option Request :=
  match encode i with
  | .bus k => some (.bus (busWord (keyRs k) (keyRw k) (keyD k)))
  | .call code args => some (.call code args)
  | .event _ _ => none

end Sys2Proof
end

