-- ==== Sys2Proof/Machine/State.lean ====
section
/-! DEFINITION. The state of the machine (spec/10_state.md R20 to R60), its outputs (R58), its faults (R300) and refusals,
and its reset values (R60, R320). -/

namespace Sys2Proof.Machine

/-- The programmable registers and the address latch (R21 to R37). -/
structure RegisterBank where
  /-- `CR.htotal`, CR0 (R21). -/
  htotal : BitVec 8
  /-- `CR.hdisp`, CR1 (R22). -/
  hdisp : BitVec 8
  /-- `CR.hsync_pos`, CR2 (R23). -/
  hsyncPos : BitVec 8
  /-- `CR.sync_width`, CR3 (R24). -/
  syncWidth : BitVec 8
  /-- `CR.vtotal`, CR4 (R25). -/
  vtotal : BitVec 7
  /-- `CR.vtotal_adj`, CR5 (R26). -/
  vtotalAdj : BitVec 5
  /-- `CR.vdisp`, CR6 (R27). -/
  vdisp : BitVec 7
  /-- `CR.vsync_pos`, CR7 (R28). -/
  vsyncPos : BitVec 7
  /-- `CR.mode`, CR8 (R29). -/
  mode : BitVec 8
  /-- `CR.max_ras`, CR9 (R30). -/
  maxRas : BitVec 5
  /-- `CR.cur_start`, CR10 (R31). -/
  curStart : BitVec 7
  /-- `CR.cur_end`, CR11 (R32). -/
  curEnd : BitVec 5
  /-- `CR.disp_start`, CR12 and CR13 (R33). -/
  dispStart : Addr
  /-- `CR.cursor_addr`, CR14 and CR15 (R34). -/
  cursorAddr : Addr
  /-- `CR.lpen_addr`, CR16 and CR17 (R35). -/
  lpenAddr : Addr
  /-- `CR.update_addr`, CR18 and CR19 (R36). -/
  updateAddr : Addr
  /-- `AL`, the address latch, zero-extended to 6 bits (R37, R91). -/
  al : Index
deriving DecidableEq, Repr

/-- The counters and the flags of the engine and of the bridge (R39 to R53). -/
structure Counters where
  /-- `cc`, the character counter (R39). -/
  cc : BitVec 8
  /-- `ra`, the raster counter (R40). -/
  ra : BitVec 5
  /-- `lc`, the line counter (R41). -/
  lc : BitVec 7
  /-- `adj_ctr`, the vertical-adjust counter (R42). -/
  adjCtr : BitVec 5
  /-- `adj_active`, the vertical-adjust sub-state (R43). -/
  adjActive : Bool
  /-- `vsw_ctr`, the VSYNC width counter (R44). -/
  vswCtr : BitVec 4
  /-- `hsw_ctr`, the HSYNC width counter (R45). -/
  hswCtr : BitVec 5
  /-- `vsync_ff`, VSYNC active (R46). -/
  vsyncFf : Bool
  /-- `line_enable` (R47). -/
  lineEnable : Bool
  /-- `blink_ctr`, the cursor blink counter (R48). -/
  blinkCtr : BitVec 8
  /-- `cursor_state` (R49). -/
  cursorState : Bool
  /-- `line_addr`, the line's base display address (R50). -/
  lineAddr : Addr
  /-- `cda`, the bridge's running display address (R51). -/
  cda : Addr
  /-- `lpen_latched` (R52). -/
  lpenLatched : Bool
  /-- `update_ready` (R53). -/
  updateReady : Bool
deriving DecidableEq, Repr

/-- The levels of the four outputs (R54). -/
structure Signals where
  /-- `DE`. -/
  de : Bool
  /-- `HSYNC`. -/
  hsync : Bool
  /-- `VSYNC`. -/
  vsync : Bool
  /-- `CURSOR`. -/
  cursor : Bool
deriving DecidableEq, Repr

/-- The eight numbers of the geometry, unbounded integers (R55, R240). -/
structure GeomNums where
  /-- `h_total_px`. -/
  hTotalPx : Int
  /-- `v_total_px`. -/
  vTotalPx : Int
  /-- `max_x`, -1 when no column is displayed. -/
  maxX : Int
  /-- `max_y`, -1 when no row is displayed. -/
  maxY : Int
  /-- `hs_on`. -/
  hsOn : Int
  /-- `hs_off`. -/
  hsOff : Int
  /-- `vs_on`. -/
  vsOn : Int
  /-- `vs_off`. -/
  vsOff : Int
deriving DecidableEq, Repr

/-- The geometry cache `G` (R55). -/
structure Geometry where
  /-- The eight numbers. -/
  nums : GeomNums
  /-- `G.valid`. -/
  valid : Bool
deriving DecidableEq, Repr

/-- A pending scheduler slot `(due, seq, payload)` (R56). -/
structure Slot where
  due : Nat
  seq : Nat
  payload : Payload
deriving DecidableEq, Repr

/-- The slots, one per event tag; `none` is empty (R56). -/
structure Slots where
  line : Option Slot
  deOff : Option Slot
  curOn : Option Slot
  curOff : Option Slot
  hsOn : Option Slot
  hsOff : Option Slot
  lpen : Option Slot
  updAdr : Option Slot
  updTrans : Option Slot
deriving DecidableEq, Repr

/-- The scheduler (R56). -/
structure Sched where
  /-- `now`, the count of `CLK` steps since power-on. -/
  now : Nat
  /-- `seq`, the next scheduling sequence number. -/
  seq : Nat
  /-- `T`. -/
  slots : Slots
deriving DecidableEq, Repr

/-- The fields of a `GEOM` record (R58, R244). -/
structure GeomRecord where
  width : Int
  height : Int
  minX : Int
  maxX : Int
  minY : Int
  maxY : Int
  /-- Character clocks per frame. -/
  refresh : Int
deriving DecidableEq, Repr

/-- The fields of a `ROW` record (R58, R260). -/
structure RowRecord where
  /-- The display memory address, 16 bits in row/column mode (R73, R100). -/
  ma : BitVec 16
  /-- The raster row `y mod ch`. -/
  ra : Nat
  y : Nat
  xCount : Nat
  /-- The cursor column, or -1. -/
  cursorX : Int
  /-- The row's display-enable field, which is not the signal `DE` (R263). -/
  de : Bool
  hbp : Int
  vbp : Int
deriving DecidableEq, Repr

/-- The output records (R58). -/
inductive Output where
  | de (v : Bool)
  | hsync (v : Bool)
  | vsync (v : Bool)
  | cursor (v : Bool)
  | geom (g : GeomRecord)
  | originReset
  | row (r : RowRecord)
  | update (addr : Addr) (strobe : Bool)
deriving DecidableEq, Repr

/-- The state of the machine. -/
structure State where
  /-- The configuration `CFG`: a parameter (R5), carried here so that it can be quantified over; no step changes it
  (DESIGN CHOICE, log 1). -/
  cfg : Config
  /-- RegisterBank (R21 to R37). -/
  regs : RegisterBank
  /-- CounterState (R39 to R53). -/
  ctr : Counters
  /-- SignalState (R54). -/
  sig : Signals
  /-- The ScreenGeometry cache `G` (R55). -/
  geo : Geometry
  /-- The scheduler (R56). -/
  sched : Sched
  /-- `fatal`, the fault flag (R57). -/
  fatal : Bool
  /-- The output trace, oldest record first (R58). -/
  trace : List Output
  /-- The MODEL's own field: the byte the last bus read returned (R90; log 4). -/
  rdata : Byte
  /-- The MODEL's own field: what the environment has issued and the chip has not taken yet, oldest first (R8, R305;
  log 3). -/
  inbox : List Request
deriving DecidableEq, Repr

/-- The faults (R300). There is one. The fault is precise state, not the end of the run: raising it gives a next state in
which `fatal` is set and what the operation had already done stays (R301), and every later step is a no-op (R302). So no
operation ends a run with this value; `State.faultOf` reads it from the state (log 2). -/
inductive Fault where
  /-- `FATAL(NO_UPDATE_HANDLER)`, code 1: raised by `call_on_update_address` when `CFG.upd_handler` is false (R301), from
  `WR.CR18`, `WR.CR19`, `WR.CR31`, `RD.CR31` and `EV.UPD_ADR`. Safe: the spec states the fault and its effect. -/
  | noUpdateHandler
deriving DecidableEq, Repr

/-- The refusals. -/
inductive Refusal where
  /-- An operation without a meaning; no arm of `exec` answers with it. Safe. -/
  | notModelled (mnemonic : String)
  /-- Raised by `step` for a request that R104 does not define: the decoder rejects its code or its number of arguments.
  Safe: the spec gives such a request no meaning (log 9). -/
  | undecodable (e : DecodeError)
  /-- Raised by `State.construct` for a configuration that R6 calls ill formed. Safe: R6 asks for the refusal. -/
  | illFormedConfig
deriving DecidableEq, Repr

/-- Every RegisterBank field at its reset value (R60). -/
def RegisterBank.reset : RegisterBank :=
  { htotal := 0, hdisp := 0, hsyncPos := 0, syncWidth := 0, vtotal := 0, vtotalAdj := 0, vdisp := 0, vsyncPos := 0,
    mode := 0, maxRas := 0, curStart := 0, curEnd := 0, dispStart := 0, cursorAddr := 0, lpenAddr := 0,
    updateAddr := 0, al := 0 }

/-- Every CounterState element at its reset value: 0, but `update_ready = 1` (R60). -/
def Counters.reset : Counters :=
  { cc := 0, ra := 0, lc := 0, adjCtr := 0, adjActive := false, vswCtr := 0, hswCtr := 0, vsyncFf := false,
    lineEnable := false, blinkCtr := 0, cursorState := false, lineAddr := 0, cda := 0, lpenLatched := false,
    updateReady := true }

/-- All four outputs low (R60). -/
def Signals.reset : Signals := { de := false, hsync := false, vsync := false, cursor := false }

/-- The geometry cache after reset: all numbers 0, not valid (R60). -/
def Geometry.reset : Geometry :=
  { nums := { hTotalPx := 0, vTotalPx := 0, maxX := 0, maxY := 0, hsOn := 0, hsOff := 0, vsOn := 0, vsOff := 0 },
    valid := false }

/-- Every slot empty. -/
def Slots.empty : Slots :=
  { line := none, deOff := none, curOn := none, curOff := none, hsOn := none, hsOff := none, lpen := none,
    updAdr := none, updTrans := none }

/-- The scheduler at power-on: `now = 0`, `seq = 0`, `T[LINE]` pending at 1, every other slot empty (R320). The sequence
number of that slot is not given; 0 is the model's (DESIGN CHOICE, log 6). -/
def Sched.powerOn : Sched :=
  { now := 0, seq := 0, slots := { Slots.empty with line := some { due := 1, seq := 0, payload := Payload.empty } } }

/-- The power-on state of a chip of configuration `c` (R320). -/
def State.powerOn (c : Config) : State :=
  { cfg := c, regs := RegisterBank.reset, ctr := Counters.reset, sig := Signals.reset, geo := Geometry.reset,
    sched := Sched.powerOn, fatal := false, trace := [], rdata := 0, inbox := [] }

/-- The machine right after power-on, with the reference configuration `CFG_B` (R7, R320; DESIGN CHOICE, log 1). -/
def State.reset : State := State.powerOn Config.cfgB

end Sys2Proof.Machine
end

