-- ==== Sys2Proof/Machine/Operands.lean ====
section
/-! DEFINITION. Operand forms: the fields inside the packed registers (R95 to R97), the helper values computed from the
registers (R197), the assembly of the 14-bit pairs (R99) and of the address latch (R94), and the derived address outputs
(R59). -/

namespace Sys2Proof.Machine

/-! ### CR8 mode control (R96) -/

/-- `interlace`, CR8 bits 1:0. -/
def State.interlace (s : State) : BitVec 2 := s.regs.mode.extractLsb' 0 2

/-- `row_col`, CR8 bit 2. -/
def State.rowCol (s : State) : Bool := s.regs.mode.getLsbD 2

/-- `transp`, CR8 bit 3. -/
def State.transp (s : State) : Bool := s.regs.mode.getLsbD 3

/-- `upd_strobe`, CR8 bit 6. -/
def State.updStrobe (s : State) : Bool := s.regs.mode.getLsbD 6

/-- `T_PHI2 = (CR.mode & 0x88) = 0x88`: the immediate update. -/
def State.tPhi2 (s : State) : Bool := s.regs.mode &&& 0x88 == 0x88

/-- `T_BLANK = (CR.mode & 0x88) = 0x08`: the update during blanking. -/
def State.tBlank (s : State) : Bool := s.regs.mode &&& 0x88 == 0x08

/-! ### CR10 cursor start raster (R97) -/

/-- `start`, CR10 bits 4:0. -/
def State.curStartRow (s : State) : Nat := (s.regs.curStart.extractLsb' 0 5).toNat

/-- `blink`, CR10 bits 6:5. -/
def State.blinkMode (s : State) : BitVec 2 := s.regs.curStart.extractLsb' 5 2

/-! ### Helper values (R197), CR3 sync width (R95) -/

/-- `adj`, the raster-height adjust. -/
def State.adj (s : State) : Nat := if s.interlace = 3 then s.cfg.adjInt else s.cfg.adjNonint

/-- `ch`, the character height in scanlines. -/
def State.ch (s : State) : Nat := s.regs.maxRas.toNat + s.adj

/-- A 4-bit width field, value 0 meaning 16. -/
def widthField (f : BitVec 4) : Nat := if f = 0 then 16 else f.toNat

/-- `hsw`, the HSYNC width in character clocks. -/
def State.hsw (s : State) : Nat := widthField (s.regs.syncWidth.extractLsb' 0 4)

/-- `vsw_cmp`, the VSYNC width compare value. -/
def State.vswCmp (s : State) : BitVec 4 := if s.cfg.vswField then s.regs.syncWidth.extractLsb' 4 4 else 0

/-- `vsw`, the VSYNC width in scanlines. -/
def State.vsw (s : State) : Nat := if s.cfg.vswField then widthField (s.regs.syncWidth.extractLsb' 4 4) else 16

/-- The line period `CR.htotal + 1` in character clocks (R21), 1 to 256. -/
def State.linePeriod (s : State) : Nat := s.regs.htotal.toNat + 1

/-! ### The 14-bit pairs (R99) -/

/-- Write of the high byte: `X <- D[5:0] :: X[7:0]`. -/
def setHigh (x : Addr) (d : Byte) : Addr := d.extractLsb' 0 6 ++ x.extractLsb' 0 8

/-- Write of the low byte: `X <- X[13:8] :: D`. -/
def setLow (x : Addr) (d : Byte) : Addr := x.extractLsb' 8 6 ++ d

/-- Read of the high byte: `zext_8(X[13:8])`. -/
def highByte (x : Addr) : Byte := (x.extractLsb' 8 6).setWidth 8

/-- Read of the low byte: `X[7:0]`. -/
def lowByte (x : Addr) : Byte := x.extractLsb' 0 8

/-! ### The address latch (R94) -/

/-- The index `D[CFG.addr_bits-1:0]`, zero-extended to 6 bits. -/
def latchIndex (c : Config) (d : Byte) : Index :=
  match c.addrBits with
  | .five => (d.extractLsb' 0 5).setWidth 6
  | .six => d.extractLsb' 0 6

/-! ### Derived outputs (R59) -/

/-- `MA = (line_addr + cc) mod 2^14`, the current display memory address. -/
def State.ma (s : State) : Addr := s.ctr.lineAddr + s.ctr.cc.setWidth 14

/-- `RA = ra`, the current raster row. -/
def State.raOut (s : State) : BitVec 5 := s.ctr.ra

/-! ### Level getters (R224) -/

/-- The level of `DE`. -/
def State.getDe (s : State) : Bool := s.sig.de

/-- The level of `HSYNC`. -/
def State.getHsync (s : State) : Bool := s.sig.hsync

/-- The level of `VSYNC`. -/
def State.getVsync (s : State) : Bool := s.sig.vsync

/-- The level of `CURSOR`. -/
def State.getCursor (s : State) : Bool := s.sig.cursor

end Sys2Proof.Machine
end

