-- ==== Sys2Proof/Machine/Flags.lean ====
section
/-! DEFINITION. The flag computations: the status byte (R98, R122), the cursor predicate (R225), the cursor blink
(R226), and the geometry's values and validity (R240, R241, R243, R244). -/

namespace Sys2Proof.Machine

/-! ### Status byte -/

/-- The status byte (R98): bit 7 `update_ready`, bit 6 `lpen_latched`, bit 5 not `line_enable`, each under its
configuration flag, the other bits 0. -/
def State.statusByte (s : State) : Byte :=
  BitVec.ofBool (s.cfg.statusD7 && s.ctr.updateReady) ++ BitVec.ofBool (s.cfg.statusD6 && s.ctr.lpenLatched)
    ++ BitVec.ofBool (s.cfg.statusD5 && !s.ctr.lineEnable) ++ (0 : BitVec 5)

/-! ### Cursor -/

/-- `cursor_visible(r, la)` (R225): blink, then the address window without wrap, then the row range. -/
def State.cursorVisible (s : State) (r : Nat) (la : Addr) : Bool :=
  let st := s.curStartRow
  let en := s.regs.curEnd.toNat
  let mx : Int := (s.ch : Int) - 1
  if s.ctr.cursorState = false then false
  else if s.regs.cursorAddr.toNat < la.toNat ∨ la.toNat + s.regs.hdisp.toNat ≤ s.regs.cursorAddr.toNat then false
  else if (st : Int) > mx then false
  else if st ≤ en then
    if (en : Int) > mx then true else decide (st ≤ r ∧ r ≤ en)
  else if s.cfg.cursorWrap = false then false
  else decide (r ≤ en ∨ st ≤ r)

/-- `update_cursor_state()` (R226): advance the blink counter; the blink mode then fixes, keeps or toggles
`cursor_state`. -/
def State.updateCursorState (s : State) : State :=
  let last := s.ctr.blinkCtr
  let next := last + 1
  let state : Bool :=
    match s.blinkMode.toNat with
    | 0 => true
    | 1 => false
    | 2 => if last.getLsbD 4 != next.getLsbD 4 then !s.ctr.cursorState else s.ctr.cursorState
    | _ => if last.getLsbD 5 != next.getLsbD 5 then !s.ctr.cursorState else s.ctr.cursorState
  { s with ctr := { s.ctr with blinkCtr := next, cursorState := state } }

/-! ### Geometry -/

/-- The eight derived values (R240) with the sync-off clamps (R241), in unbounded integers (R12). -/
def State.deriveGeom (s : State) : GeomNums :=
  let hpix : Int := s.cfg.hpix
  let ch : Int := s.ch
  let hTotal : Int := ((s.regs.htotal.toNat : Int) + 1) * hpix
  let vTotal : Int := ((s.regs.vtotal.toNat : Int) + 1) * ch + s.regs.vtotalAdj.toNat
  let hsOn : Int := s.regs.hsyncPos.toNat * hpix
  let vsOn : Int := s.regs.vsyncPos.toNat * ch
  { hTotalPx := hTotal
    vTotalPx := vTotal
    maxX := s.regs.hdisp.toNat * hpix - 1
    maxY := s.regs.vdisp.toNat * ch - 1
    hsOn := hsOn
    hsOff := min (hsOn + s.hsw * hpix) hTotal
    vsOn := vsOn
    vsOff := min (vsOn + s.vsw) vTotal }

/-- The validity test on both axes (R243). A line displayed to its last column, `CR.hdisp = CR.htotal + 1`, has
`max_x = h_total_px - 1` and passes R243; R329 counts it among the invalid cases, for a reason (`max_x >= h_total_px`) that
does not hold there. No file of spec/ settles which of the two rules is followed; the model takes R243 (DESIGN CHOICE,
log 15). -/
def GeomNums.isValid (g : GeomNums) : Bool :=
  decide (g.hTotalPx > 0 ∧ g.vTotalPx > 0
    ∧ 0 ≤ g.maxX ∧ g.maxX < g.hTotalPx
    ∧ 0 ≤ g.maxY ∧ g.maxY < g.vTotalPx
    ∧ g.hsOn ≤ g.hTotalPx ∧ g.vsOn ≤ g.vTotalPx
    ∧ g.hsOn ≠ g.hsOff ∧ g.vsOn ≠ g.vsOff)

/-- The `GEOM` record of the values `g` (R244); the refresh period is in character clocks. -/
def State.geomRecord (s : State) (g : GeomNums) : GeomRecord :=
  { width := g.hTotalPx, height := g.vTotalPx, minX := 0, maxX := g.maxX, minY := 0, maxY := g.maxY,
    refresh := ((s.regs.htotal.toNat : Int) + 1) * g.vTotalPx }

end Sys2Proof.Machine
end

