-- ==== Sys2Proof/Machine/Ops.lean ====
section
/-! DEFINITION. The named operations every meaning is built from: the output trace (R58), the scheduler's slots (R56,
R180), the fault (R301), the edge-triggered setters (R220 to R223), the vertical comparators (R187), the transparent
update (R272 to R274), the geometry recompute (R242, R245), and construction (R6). The block has no memory (R73). -/

namespace Sys2Proof.Machine

/-! ### Output -/

/-- `emit X`: append a record to the trace (R58). -/
def State.emit (s : State) (o : Output) : State := { s with trace := s.trace ++ [o] }

/-! ### Slots -/

/-- The tags in the order of their codes (R103). -/
def allTags : List Tag := [.line, .deOff, .curOn, .curOff, .hsOn, .hsOff, .lpen, .updAdr, .updTrans]

/-- `T[tag]`. -/
def Slots.get (t : Slots) : Tag → Option Slot
  | .line => t.line
  | .deOff => t.deOff
  | .curOn => t.curOn
  | .curOff => t.curOff
  | .hsOn => t.hsOn
  | .hsOff => t.hsOff
  | .lpen => t.lpen
  | .updAdr => t.updAdr
  | .updTrans => t.updTrans

/-- `T[tag] <- x`. -/
def Slots.set (t : Slots) (tag : Tag) (x : Option Slot) : Slots :=
  match tag with
  | .line => { t with line := x }
  | .deOff => { t with deOff := x }
  | .curOn => { t with curOn := x }
  | .curOff => { t with curOff := x }
  | .hsOn => { t with hsOn := x }
  | .hsOff => { t with hsOff := x }
  | .lpen => { t with lpen := x }
  | .updAdr => { t with updAdr := x }
  | .updTrans => { t with updTrans := x }

/-- The slot of a tag. -/
def State.slot (s : State) (tag : Tag) : Option Slot := s.sched.slots.get tag

/-- `schedule(tag, delay, payload)` (R180): a pending slot of the tag is replaced. -/
def State.scheduleWith (s : State) (tag : Tag) (delay : Nat) (p : Payload) : State :=
  { s with sched := { s.sched with
      seq := s.sched.seq + 1,
      slots := s.sched.slots.set tag (some { due := s.sched.now + delay, seq := s.sched.seq, payload := p }) } }

/-- `schedule(tag, delay)` for a tag without a payload (R180). -/
def State.schedule (s : State) (tag : Tag) (delay : Nat) : State := s.scheduleWith tag delay Payload.empty

/-- `cancel(tag)` (R180). -/
def State.cancel (s : State) (tag : Tag) : State :=
  { s with sched := { s.sched with slots := s.sched.slots.set tag none } }

/-- The slot is pending and due (R181). -/
def Slot.dueBy (sl : Slot) (now : Nat) : Bool := decide (sl.due ≤ now)

/-- The pending slots with `due <= now`, in the order of their tag codes. -/
def State.dueSlots (s : State) : List (Tag × Slot) :=
  allTags.filterMap fun t =>
    match s.slot t with
    | some sl => if sl.dueBy s.sched.now then some (t, sl) else none
    | none => none

/-- The entry with the least sequence number; of equal ones the first in the list (log 6). -/
def leastSeq : List (Tag × Slot) → Option (Tag × Slot)
  | [] => none
  | x :: xs =>
    match leastSeq xs with
    | none => some x
    | some y => if x.2.seq ≤ y.2.seq then some x else some y

/-- The slot that fires next at this instant (R181). -/
def State.pickDue (s : State) : Option (Tag × Slot) := leastSeq s.dueSlots

/-! ### The fault -/

/-- Taking the one exception of the block, `raise FATAL(code)` (R301): the flag is set, nothing is saved and nothing else
changes; what the operation has done so far stays. There is no return from it (R302). -/
def State.raise (s : State) : Fault → State
  | .noUpdateHandler => { s with fatal := true }

/-- The fault the machine is stopped by, read from the flag (R57, R300). -/
def State.faultOf (s : State) : Option Fault := if s.fatal then some .noUpdateHandler else none

/-- The code of a fault (R300). -/
def Fault.code : Fault → Nat
  | .noUpdateHandler => 1

/-- An operation is a no-op under `fatal = 1` (R302). -/
def State.unlessFatal (s : State) (f : State → State) : State := if s.fatal then s else f s

/-! ### Transparent update, shared by registers and events -/

/-- `upd_adr_timer()` (R274). -/
def State.updAdrTimer (s : State) : State :=
  if s.sig.de = false ∧ s.cfg.transparent = true then s.schedule .updAdr s.cfg.updDelay else s

/-- `call_on_update_address(strobe)` (R273). -/
def State.callOnUpdateAddress (s : State) (strobe : Bool) : State :=
  if s.cfg.updHandler then s.scheduleWith .updTrans 0 { addr := s.regs.updateAddr, strobe := strobe }
  else s.raise .noUpdateHandler

/-- `CR.update_addr <- (CR.update_addr + 1) mod 2^14`. -/
def State.incUpdateAddr (s : State) : State :=
  { s with regs := { s.regs with updateAddr := s.regs.updateAddr + 1 } }

/-- `update_ready <- v`. -/
def State.setUpdateReady (s : State) (v : Bool) : State := { s with ctr := { s.ctr with updateReady := v } }

/-- `transparent_update()` (R272). -/
def State.transparentUpdate (s : State) : State :=
  if s.cfg.transparent = true ∧ s.transp = true then
    if s.tPhi2 then s.incUpdateAddr.callOnUpdateAddress s.updStrobe
    else if s.ctr.updateReady then (s.setUpdateReady false).updAdrTimer
    else s
  else s

/-! ### Signal setters -/

/-- `set_hsync(v)` (R220). -/
def State.setHsync (s : State) (v : Bool) : State :=
  if s.sig.hsync = v then s else { s with sig := { s.sig with hsync := v } }.emit (.hsync v)

/-- `set_vsync(v)` (R221). -/
def State.setVsync (s : State) (v : Bool) : State :=
  if s.sig.vsync = v then s else { s with sig := { s.sig with vsync := v } }.emit (.vsync v)

/-- `set_cur(v)` (R222). -/
def State.setCur (s : State) (v : Bool) : State :=
  if s.sig.cursor = v then s else { s with sig := { s.sig with cursor := v } }.emit (.cursor v)

/-- The hook of the transparent mode inside `set_de` (R223), after the level is written: DE rising cancels a wait, DE
falling with a request outstanding starts one. -/
def State.deHook (s : State) (v : Bool) : State :=
  if v then s.cancel .updAdr
  else if s.ctr.updateReady = false then s.updAdrTimer
  else s

/-- `set_de(v)` (R223). -/
def State.setDe (s : State) (v : Bool) : State :=
  if s.sig.de = v then s
  else (({ s with sig := { s.sig with de := v } } : State).deHook v).emit (.de v)

/-! ### Vertical position comparators -/

/-- `match_line()` (R187): the new state, and whether VSYNC starts. -/
def State.matchLine (s : State) : State × Bool :=
  let s := if s.ctr.lc = s.regs.vdisp then { s with ctr := { s.ctr with lineEnable := false } } else s
  if s.ctr.lc = s.regs.vsyncPos then ({ s with ctr := { s.ctr with vswCtr := 0, vsyncFf := true } }, true)
  else (s, false)

/-! ### Geometry -/

/-- Emission of the `GEOM` record when the values are valid (R242, R244). -/
def State.emitGeom (s : State) (g : GeomNums) : State :=
  if g.isValid then s.emit (.geom (s.geomRecord g)) else s

/-- The cache update (R245). -/
def State.storeGeom (s : State) (g : GeomNums) : State := { s with geo := { nums := g, valid := g.isValid } }

/-- The line restart (R245): `schedule(LINE, CR.htotal + 1)`, then `cc <- 0`. -/
def State.restartLine (s : State) : State :=
  let s := s.schedule .line s.linePeriod
  { s with ctr := { s.ctr with cc := 0 } }

/-- `recompute(restore)` (R242). -/
def State.recompute (s : State) (restore : Bool) : State :=
  let g := s.deriveGeom
  if restore = true ∨ g ≠ s.geo.nums then
    let s := (s.emitGeom g).storeGeom g
    if restore then s else s.restartLine
  else s

/-! ### Construction -/

/-- Construction of a chip (R6): an ill-formed configuration is refused. The power-on state itself also exists for an
ill-formed configuration, for the run-time fault that R6 keeps defined (log 8). -/
def State.construct (c : Config) : Host.Outcome State Fault Refusal :=
  if c.wf then .next (State.powerOn c) else .refused .illFormedConfig

end Sys2Proof.Machine
end

