-- ==== Sys2Proof/Machine/Events.lean ====
section
/-! DEFINITION. The internal events (R103): the line-boundary tick in its seven steps (R183 to R191), the sub-timers of a
line (R192 to R196), the light-pen latch (R271) and the two update one-shots (R275, R276). A handler is the body that
`run_due` fires after it has emptied the slot (R181); the meaning of the event is that body, and a no-op under `fatal`
(R302). -/

namespace Sys2Proof.Machine

/-! ### The line-boundary tick: `nv` is the VSYNC level to apply at step 6 -/

/-- Step 0 (R184): `nv <- VSYNC; cc <- 0`. -/
def lineStep0 (s : State) : State × Bool := ({ s with ctr := { s.ctr with cc := 0 } }, s.sig.vsync)

/-- Step 1 (R185): the VSYNC width counter. -/
def lineStep1 (s : State) (nv : Bool) : State × Bool :=
  if s.ctr.vsyncFf then
    let c := s.ctr.vswCtr + 1
    if c = s.vswCmp then ({ s with ctr := { s.ctr with vswCtr := c, vsyncFf := false } }, false)
    else ({ s with ctr := { s.ctr with vswCtr := c } }, nv)
  else (s, nv)

/-- The raster counter is on the last row of the character, `ra = ch - 1` on unbounded integers (R186, R12). -/
def State.lastRaster (s : State) : Bool := decide ((s.ctr.ra.toNat : Int) = (s.ch : Int) - 1)

/-- The end-of-frame test of step 2 (R186), on `lc` before it is advanced. -/
def State.endOfFrame (s : State) : State :=
  if s.ctr.lc = s.regs.vtotal then { s with ctr := { s.ctr with adjCtr := 0, adjActive := true } } else s

/-- The row end of step 2 (R186): `ra <- 0`, `lc` and `line_addr` advance. -/
def State.nextRow (s : State) : State :=
  { s with ctr := { s.ctr with
      ra := 0, lc := s.ctr.lc + 1, lineAddr := s.ctr.lineAddr + s.regs.hdisp.setWidth 14 } }

/-- Step 2 (R186): the raster and line counters. -/
def lineStep2 (s : State) (nv : Bool) : State × Bool :=
  if s.lastRaster then
    let (s, m) := s.endOfFrame.nextRow.matchLine
    (s, if m then true else nv)
  else ({ s with ctr := { s.ctr with ra := s.ctr.ra + 1 } }, nv)

/-- The counters at a frame restart (R188). -/
def State.frameOrigin (s : State) : State :=
  { s with ctr := { s.ctr with
      adjActive := false, ra := 0, lc := 0, lineAddr := s.regs.dispStart, lineEnable := true } }

/-- Step 3 (R188): vertical adjust, compared before it is advanced (C1), and the frame restart. -/
def lineStep3 (s : State) (nv : Bool) : State × Bool :=
  if s.ctr.adjActive then
    if s.ctr.adjCtr = s.regs.vtotalAdj then
      let s := s.frameOrigin
      let (s, m) := if s.cfg.vswField then s.matchLine else (s, false)
      (s.updateCursorState.emit .originReset, if m then true else nv)
    else ({ s with ctr := { s.ctr with adjCtr := s.ctr.adjCtr + 1 } }, nv)
  else (s, nv)

/-- Step 4 (R189): display enable and cursor of this line. -/
def lineStep4 (s : State) : State :=
  if s.ctr.lineEnable then
    let s := s.schedule .deOff s.regs.hdisp.toNat
    if s.cursorVisible s.ctr.ra.toNat s.ctr.lineAddr then
      s.schedule .curOn (s.regs.cursorAddr.toNat - s.ctr.lineAddr.toNat)
    else s
  else s

/-- Step 5 (R190): HSYNC, then the next tick. -/
def lineStep5 (s : State) : State :=
  let s := s.schedule .hsOn s.regs.hsyncPos.toNat
  s.schedule .line s.linePeriod

/-- Step 6 (R191): VSYNC, then DE. -/
def lineStep6 (s : State) (nv : Bool) : State := (s.setVsync nv).setDe s.ctr.lineEnable

/-- Steps 0 to 3, the counters (R183): the new state and the VSYNC level to apply. -/
def lineCounters (s : State) : State × Bool :=
  let (s, nv) := lineStep0 s
  let (s, nv) := lineStep1 s nv
  let (s, nv) := lineStep2 s nv
  lineStep3 s nv

/-- The handler of `EV.LINE` (R183). -/
def evLine (s : State) : State :=
  let (s, nv) := lineCounters s
  lineStep6 (lineStep5 (lineStep4 s)) nv

/-! ### The sub-timers of a line -/

/-- The handler of `EV.DE_OFF` (R192). -/
def evDeOff (s : State) : State := s.setDe false

/-- The handler of `EV.HS_ON` (R193): the width is sampled here. -/
def evHsOn (s : State) : State :=
  let s := ({ s with ctr := { s.ctr with hswCtr := 0 } } : State).setHsync true
  s.schedule .hsOff s.hsw

/-- The handler of `EV.HS_OFF` (R194). -/
def evHsOff (s : State) : State := s.setHsync false

/-- The handler of `EV.CUR_ON` (R195). -/
def evCurOn (s : State) : State := (s.setCur true).schedule .curOff 1

/-- The handler of `EV.CUR_OFF` (R196). -/
def evCurOff (s : State) : State := s.setCur false

/-! ### Light pen and transparent update -/

/-- The handler of `EV.LPEN` (R271). -/
def evLpen (s : State) : State :=
  { s with regs := { s.regs with lpenAddr := s.ma }, ctr := { s.ctr with lpenLatched := true } }

/-- The handler of `EV.UPD_ADR` (R275). -/
def evUpdAdr (s : State) : State := s.callOnUpdateAddress s.updStrobe

/-- The handler of `EV.UPD_TRANS` with its payload (R276). -/
def evUpdTrans (addr : Addr) (strobe : Bool) (s : State) : State :=
  let s := s.emit (.update addr strobe)
  if s.ctr.updateReady = false ∧ s.tBlank = true then s.incUpdateAddr.setUpdateReady true else s

/-! ### The meanings -/

/-- `EV.LINE`. -/
def execEvLine (s : State) : Host.Outcome State Fault Refusal := .next (s.unlessFatal evLine)

/-- `EV.DE_OFF`. -/
def execEvDeOff (s : State) : Host.Outcome State Fault Refusal := .next (s.unlessFatal evDeOff)

/-- `EV.CUR_ON`. -/
def execEvCurOn (s : State) : Host.Outcome State Fault Refusal := .next (s.unlessFatal evCurOn)

/-- `EV.CUR_OFF`. -/
def execEvCurOff (s : State) : Host.Outcome State Fault Refusal := .next (s.unlessFatal evCurOff)

/-- `EV.HS_ON`. -/
def execEvHsOn (s : State) : Host.Outcome State Fault Refusal := .next (s.unlessFatal evHsOn)

/-- `EV.HS_OFF`. -/
def execEvHsOff (s : State) : Host.Outcome State Fault Refusal := .next (s.unlessFatal evHsOff)

/-- `EV.LPEN`. -/
def execEvLpen (s : State) : Host.Outcome State Fault Refusal := .next (s.unlessFatal evLpen)

/-- `EV.UPD_ADR`. -/
def execEvUpdAdr (s : State) : Host.Outcome State Fault Refusal := .next (s.unlessFatal evUpdAdr)

/-- `EV.UPD_TRANS`. -/
def execEvUpdTrans (addr : Addr) (strobe : Bool) (s : State) : Host.Outcome State Fault Refusal :=
  .next (s.unlessFatal (evUpdTrans addr strobe))

end Sys2Proof.Machine
end

