-- ==== Sys2Proof/Machine/Scheduler.lean ====
section
/-! DEFINITION. `run_due()` (R181): what is due fires, least sequence number first, until nothing is due or the machine is
stopped by the fault; and the two closing actions of the bus (R120). -/

namespace Sys2Proof.Machine

/-- `fire EV.<tag>(payload)` (R181). -/
def State.fire (s : State) (p : Payload) : Tag → State
  | .line => evLine s
  | .deOff => evDeOff s
  | .curOn => evCurOn s
  | .curOff => evCurOff s
  | .hsOn => evHsOn s
  | .hsOff => evHsOff s
  | .lpen => evLpen s
  | .updAdr => evUpdAdr s
  | .updTrans => evUpdTrans p.addr p.strobe s

/-- The loop of `run_due`, at most `n` times round: the slot is emptied before its handler runs (R181). -/
def runDueLoop : Nat → State → State
  | 0, s => s
  | n + 1, s =>
    if s.fatal then s
    else
      match s.pickDue with
      | none => s
      | some (t, sl) => runDueLoop n ((s.cancel t).fire sl.payload t)

/-- The number of rounds that `runDue` allows. The loop needs at most 19 from any state of any configuration: of the nine
slots, `LINE` (never re-armed at this instant, R190) can start three others and make DE fall, DE falling can start
`UPD_ADR` when `CFG.UPD_DELAY` is 0, and `UPD_ADR` starts `UPD_TRANS` (log 7). -/
def runDueRounds : Nat := 24

/-- `run_due()` (R181). -/
def State.runDue (s : State) : State := runDueLoop runDueRounds s

/-- What ends a data-port write (R120): the recompute, then `run_due`; neither runs when the write raised `FATAL`. -/
def State.closeWrite (s : State) : State := if s.fatal then s else (s.recompute false).runDue

/-- A data-port write that stores by `store` (R120, R302). -/
def busWrite (store : State → State) (s : State) : Host.Outcome State Fault Refusal :=
  .next (s.unlessFatal fun s => (store s).closeWrite)

/-- A bus read that returns `value` and has the side effect `effect`, then `run_due` (R120). Under `fatal` it returns 0x00
and does nothing else (R302). A read whose effect raises the fault returns `value` all the same (DESIGN CHOICE, log 16). -/
def busRead (value : State → Byte) (effect : State → State) (s : State) : Host.Outcome State Fault Refusal :=
  .next (if s.fatal then { s with rdata := 0 } else ({ effect s with rdata := value s } : State).runDue)

end Sys2Proof.Machine
end

