-- ==== Sys2Proof/Machine/BusRead.lean ====
section
/-! DEFINITION. The address port's read `RDST` (R122) and the data-port reads (R145 to R166). A read ends with `run_due`
only (R120, in `busRead`); a write-only or undefined register reads as 0x00. -/

namespace Sys2Proof.Machine

/-- A register that reads as 0x00 and has no side effect (R145 to R156, R163, R164, R166). -/
def readsZero (s : State) : Host.Outcome State Fault Refusal := busRead (fun _ => 0) id s

/-- The side effect of reading the light-pen address: `lpen_latched <- 0` (R161, R162). -/
def State.clearLpenLatched (s : State) : State := { s with ctr := { s.ctr with lpenLatched := false } }

/-- `RDST` (R122): the status byte; no state element changes. -/
def execRdst (s : State) : Host.Outcome State Fault Refusal := busRead State.statusByte id s

/-- `RD.CR0`, write-only (R145). -/
def execRdCr0 (s : State) : Host.Outcome State Fault Refusal := readsZero s

/-- `RD.CR1`, write-only (R146). -/
def execRdCr1 (s : State) : Host.Outcome State Fault Refusal := readsZero s

/-- `RD.CR2`, write-only (R147). -/
def execRdCr2 (s : State) : Host.Outcome State Fault Refusal := readsZero s

/-- `RD.CR3`, write-only (R148). -/
def execRdCr3 (s : State) : Host.Outcome State Fault Refusal := readsZero s

/-- `RD.CR4`, write-only (R149). -/
def execRdCr4 (s : State) : Host.Outcome State Fault Refusal := readsZero s

/-- `RD.CR5`, write-only (R150). -/
def execRdCr5 (s : State) : Host.Outcome State Fault Refusal := readsZero s

/-- `RD.CR6`, write-only (R151). -/
def execRdCr6 (s : State) : Host.Outcome State Fault Refusal := readsZero s

/-- `RD.CR7`, write-only (R152). -/
def execRdCr7 (s : State) : Host.Outcome State Fault Refusal := readsZero s

/-- `RD.CR8`, write-only (R153). -/
def execRdCr8 (s : State) : Host.Outcome State Fault Refusal := readsZero s

/-- `RD.CR9`, write-only (R154). -/
def execRdCr9 (s : State) : Host.Outcome State Fault Refusal := readsZero s

/-- `RD.CR10`, write-only (R155). -/
def execRdCr10 (s : State) : Host.Outcome State Fault Refusal := readsZero s

/-- `RD.CR11`, write-only (R156). -/
def execRdCr11 (s : State) : Host.Outcome State Fault Refusal := readsZero s

/-- `RD.CR12`, display start high, where it reads back (R157). -/
def execRdCr12 (s : State) : Host.Outcome State Fault Refusal :=
  busRead (fun s => if s.cfg.startReadback then highByte s.regs.dispStart else 0) id s

/-- `RD.CR13`, display start low, where it reads back (R158). -/
def execRdCr13 (s : State) : Host.Outcome State Fault Refusal :=
  busRead (fun s => if s.cfg.startReadback then lowByte s.regs.dispStart else 0) id s

/-- `RD.CR14`, cursor address high (R159). -/
def execRdCr14 (s : State) : Host.Outcome State Fault Refusal := busRead (fun s => highByte s.regs.cursorAddr) id s

/-- `RD.CR15`, cursor address low (R160). -/
def execRdCr15 (s : State) : Host.Outcome State Fault Refusal := busRead (fun s => lowByte s.regs.cursorAddr) id s

/-- `RD.CR16`, light pen high (R161): clears `lpen_latched`. -/
def execRdCr16 (s : State) : Host.Outcome State Fault Refusal :=
  busRead (fun s => highByte s.regs.lpenAddr) State.clearLpenLatched s

/-- `RD.CR17`, light pen low (R162): clears `lpen_latched`. -/
def execRdCr17 (s : State) : Host.Outcome State Fault Refusal :=
  busRead (fun s => lowByte s.regs.lpenAddr) State.clearLpenLatched s

/-- `RD.CR18`, write-only on every variant (R163). -/
def execRdCr18 (s : State) : Host.Outcome State Fault Refusal := readsZero s

/-- `RD.CR19`, write-only on every variant (R164). -/
def execRdCr19 (s : State) : Host.Outcome State Fault Refusal := readsZero s

/-- `RD.CR31`, transparent update (R165). The byte is 0x00 also when the update raises the fault, where no rule gives it
(DESIGN CHOICE, log 16). -/
def execRdCr31 (s : State) : Host.Outcome State Fault Refusal := busRead (fun _ => 0) State.transparentUpdate s

/-- `RD.UNDEF`, any undefined index (R166, R101). -/
def execRdUndef (_al : Index) (s : State) : Host.Outcome State Fault Refusal := readsZero s

end Sys2Proof.Machine
end

