-- ==== Sys2Proof/Machine/BusWrite.lean ====
section
/-! DEFINITION. The address port's write `SEL` (R121) and the data-port writes (R123 to R144). Every data-port write ends
with the recompute and `run_due` (R120, in `busWrite`). -/

namespace Sys2Proof.Machine

/-- `CR <- f CR`. -/
def State.updRegs (s : State) (f : RegisterBank → RegisterBank) : State := { s with regs := f s.regs }

/-- The common part of `WR.CR18` and `WR.CR19` (R141, R142): on a transparent variant the new address is stored, and in the
immediate mode presented. -/
def State.writeUpdateAddr (s : State) (a : Addr) : State :=
  if s.cfg.transparent then
    let s := s.updRegs fun r => { r with updateAddr := a }
    if s.tPhi2 then s.callOnUpdateAddress s.updStrobe else s
  else s

/-- `SEL n` (R121): `AL <- D[CFG.addr_bits-1:0]`; no recompute. -/
def execSel (d : Byte) (s : State) : Host.Outcome State Fault Refusal :=
  .next (s.unlessFatal fun s => (s.updRegs fun r => { r with al := latchIndex s.cfg d }).runDue)

/-- `WR.CR0`, horizontal total (R123). -/
def execWrCr0 (d : Byte) (s : State) : Host.Outcome State Fault Refusal :=
  busWrite (fun s => s.updRegs fun r => { r with htotal := d }) s

/-- `WR.CR1`, horizontal displayed (R124). -/
def execWrCr1 (d : Byte) (s : State) : Host.Outcome State Fault Refusal :=
  busWrite (fun s => s.updRegs fun r => { r with hdisp := d }) s

/-- `WR.CR2`, horizontal sync position (R125). -/
def execWrCr2 (d : Byte) (s : State) : Host.Outcome State Fault Refusal :=
  busWrite (fun s => s.updRegs fun r => { r with hsyncPos := d }) s

/-- `WR.CR3`, sync width (R126): all 8 bits are stored on every variant. -/
def execWrCr3 (d : Byte) (s : State) : Host.Outcome State Fault Refusal :=
  busWrite (fun s => s.updRegs fun r => { r with syncWidth := d }) s

/-- `WR.CR4`, vertical total (R127). -/
def execWrCr4 (d : Byte) (s : State) : Host.Outcome State Fault Refusal :=
  busWrite (fun s => s.updRegs fun r => { r with vtotal := d.setWidth 7 }) s

/-- `WR.CR5`, vertical total adjust (R128). -/
def execWrCr5 (d : Byte) (s : State) : Host.Outcome State Fault Refusal :=
  busWrite (fun s => s.updRegs fun r => { r with vtotalAdj := d.setWidth 5 }) s

/-- `WR.CR6`, vertical displayed (R129). -/
def execWrCr6 (d : Byte) (s : State) : Host.Outcome State Fault Refusal :=
  busWrite (fun s => s.updRegs fun r => { r with vdisp := d.setWidth 7 }) s

/-- `WR.CR7`, vertical sync position (R130). -/
def execWrCr7 (d : Byte) (s : State) : Host.Outcome State Fault Refusal :=
  busWrite (fun s => s.updRegs fun r => { r with vsyncPos := d.setWidth 7 }) s

/-- `WR.CR8`, mode control (R131): no fault is raised here. -/
def execWrCr8 (d : Byte) (s : State) : Host.Outcome State Fault Refusal :=
  busWrite (fun s => s.updRegs fun r => { r with mode := d }) s

/-- `WR.CR9`, maximum raster address (R132). -/
def execWrCr9 (d : Byte) (s : State) : Host.Outcome State Fault Refusal :=
  busWrite (fun s => s.updRegs fun r => { r with maxRas := d.setWidth 5 }) s

/-- `WR.CR10`, cursor start raster and blink mode (R133). -/
def execWrCr10 (d : Byte) (s : State) : Host.Outcome State Fault Refusal :=
  busWrite (fun s => s.updRegs fun r => { r with curStart := d.setWidth 7 }) s

/-- `WR.CR11`, cursor end raster (R134). -/
def execWrCr11 (d : Byte) (s : State) : Host.Outcome State Fault Refusal :=
  busWrite (fun s => s.updRegs fun r => { r with curEnd := d.setWidth 5 }) s

/-- `WR.CR12`, display start high (R135). -/
def execWrCr12 (d : Byte) (s : State) : Host.Outcome State Fault Refusal :=
  busWrite (fun s => s.updRegs fun r => { r with dispStart := setHigh r.dispStart d }) s

/-- `WR.CR13`, display start low (R136). -/
def execWrCr13 (d : Byte) (s : State) : Host.Outcome State Fault Refusal :=
  busWrite (fun s => s.updRegs fun r => { r with dispStart := setLow r.dispStart d }) s

/-- `WR.CR14`, cursor address high (R137). -/
def execWrCr14 (d : Byte) (s : State) : Host.Outcome State Fault Refusal :=
  busWrite (fun s => s.updRegs fun r => { r with cursorAddr := setHigh r.cursorAddr d }) s

/-- `WR.CR15`, cursor address low (R138). -/
def execWrCr15 (d : Byte) (s : State) : Host.Outcome State Fault Refusal :=
  busWrite (fun s => s.updRegs fun r => { r with cursorAddr := setLow r.cursorAddr d }) s

/-- `WR.CR16`, light pen high, read-only (R139): nothing is stored. -/
def execWrCr16 (_d : Byte) (s : State) : Host.Outcome State Fault Refusal := busWrite id s

/-- `WR.CR17`, light pen low, read-only (R140): nothing is stored. -/
def execWrCr17 (_d : Byte) (s : State) : Host.Outcome State Fault Refusal := busWrite id s

/-- `WR.CR18`, update address high (R141). -/
def execWrCr18 (d : Byte) (s : State) : Host.Outcome State Fault Refusal :=
  busWrite (fun s => s.writeUpdateAddr (setHigh s.regs.updateAddr d)) s

/-- `WR.CR19`, update address low (R142). -/
def execWrCr19 (d : Byte) (s : State) : Host.Outcome State Fault Refusal :=
  busWrite (fun s => s.writeUpdateAddr (setLow s.regs.updateAddr d)) s

/-- `WR.CR31`, transparent update (R143): the byte is ignored. -/
def execWrCr31 (_d : Byte) (s : State) : Host.Outcome State Fault Refusal := busWrite State.transparentUpdate s

/-- `WR.UNDEF`, any undefined index (R144, R101): nothing is stored. -/
def execWrUndef (_al : Index) (_d : Byte) (s : State) : Host.Outcome State Fault Refusal := busWrite id s

end Sys2Proof.Machine
end

