-- ==== Sys2Proof/Machine/PinHost.lean ====
section
/-! DEFINITION. The pin events `CLK` (R182), `RESET` (R321), `LPSTB` (R270) and the host calls `SCAN` (R260), `FRAME`
(R261), `RESTORE` (R246). -/

namespace Sys2Proof.Machine

/-! ### The character clock -/

/-- The part of `CLK` before `run_due` (R182): `now`, `cc`, and `hsw_ctr` while `T[HS_OFF]` is pending. -/
def State.tick (s : State) : State :=
  { s with
    sched := { s.sched with now := s.sched.now + 1 }
    ctr := { s.ctr with
      cc := s.ctr.cc + 1,
      hswCtr := if (s.slot .hsOff).isSome then s.ctr.hswCtr + 1 else s.ctr.hswCtr } }

/-- `CLK` (R182): counters first, then events. -/
def execClk (s : State) : Host.Outcome State Fault Refusal := .next (s.unlessFatal fun s => s.tick.runDue)

/-! ### Reset -/

/-- RegisterBank and CounterState to their reset values (R321, first line). -/
def State.resetBanks (s : State) : State := { s with regs := RegisterBank.reset, ctr := Counters.reset }

/-- The four signals low through the setters (R321): a record for each that was high. -/
def State.lowerSignals (s : State) : State := (((s.setDe false).setHsync false).setVsync false).setCur false

/-- Every slot empty, the geometry cache cleared (R321). -/
def State.clearSlotsAndGeom (s : State) : State :=
  { s with sched := { s.sched with slots := Slots.empty }, geo := Geometry.reset }

/-- `RESET` (R321). Not reset: `now`, `seq`, `fatal`, the trace, `CFG`. -/
def execReset (s : State) : Host.Outcome State Fault Refusal :=
  .next (s.unlessFatal fun s => (s.resetBanks.lowerSignals.clearSlotsAndGeom.schedule .line 1).runDue)

/-! ### Light-pen strobe -/

/-- `LPSTB` (R270). -/
def execLpstb (s : State) : Host.Outcome State Fault Refusal :=
  .next (s.unlessFatal fun s => (s.schedule .lpen 1).runDue)

/-! ### The scanline bridge -/

/-- The display memory address of scanline `y` (R260): packed row and column in row/column mode (R100), `cda` in linear
mode. -/
def State.rowAddress (s : State) (y : Nat) : BitVec 16 :=
  if s.rowCol then s.regs.dispStart.setWidth 16 + BitVec.ofNat 16 (((y / s.ch) % 256) * 256)
  else s.ctr.cda.setWidth 16

/-- The `ROW` record of scanline `y` (R260). -/
def State.rowRecord (s : State) (y : Nat) : RowRecord :=
  let ra := y % s.ch
  { ma := s.rowAddress y
    ra := ra
    y := y
    xCount := s.regs.hdisp.toNat
    cursorX := if s.cursorVisible ra s.ctr.cda then (s.regs.cursorAddr.toNat : Int) - s.ctr.cda.toNat else -1
    de := decide ((y : Int) ≤ s.geo.nums.maxY)
    hbp := max (s.geo.nums.hTotalPx - s.geo.nums.hsOff) 0
    vbp := max (s.geo.nums.vTotalPx - s.geo.nums.vsOff) 0 }

/-- `cda` advances when scanline `y` is the bottom raster row of a character (R260). -/
def State.advanceCda (s : State) (y : Nat) : State :=
  if ((y % s.ch : Nat) : Int) = (s.ch : Int) - 1 then
    { s with ctr := { s.ctr with cda := s.ctr.cda + s.regs.hdisp.setWidth 14 } }
  else s

/-- The body of `SCAN y` (R260): the record before `cda` advances. -/
def State.scanRow (s : State) (y : Nat) : State :=
  s.unlessFatal fun s => ((s.emit (.row (s.rowRecord y))).advanceCda y).runDue

/-- `SCAN y` (R260). -/
def execScan (y : Nat) (s : State) : Host.Outcome State Fault Refusal := .next (s.scanRow y)

/-- `SCAN y`, `SCAN y+1`, …: `n` scanlines in increasing order (R261). -/
def scanRows : Nat → Nat → State → State
  | 0, _, s => s
  | n + 1, y, s => scanRows n (y + 1) (s.scanRow y)

/-- `cda <- CR.disp_start` when the clip region begins at 0 (R261). -/
def State.frameCda (s : State) (y0 : Nat) : State :=
  if y0 = 0 then { s with ctr := { s.ctr with cda := s.regs.dispStart } } else s

/-- `FRAME y0, y1` (R261): nothing is drawn while the geometry is invalid (R247). -/
def execFrame (y0 y1 : Nat) (s : State) : Host.Outcome State Fault Refusal :=
  .next (s.unlessFatal fun s =>
    (if s.geo.valid then scanRows (y1 + 1 - y0) y0 (s.frameCda y0) else s).runDue)

/-! ### Restore -/

/-- `RESTORE` (R246): a forced recompute without the line restart. -/
def execRestore (s : State) : Host.Outcome State Fault Refusal :=
  .next (s.unlessFatal fun s => (s.recompute true).runDue)

end Sys2Proof.Machine
end

