-- ==== Sys2Proof/Machine/Dispatch.lean ====
section
/-! DEFINITION. The meaning of every operation: one arm per constructor of `Instr`. -/

namespace Sys2Proof.Machine

def exec (i : Instr) (s : State) : Host.Outcome State Fault Refusal :=
  match i with
  | .sel d => Sys2Proof.Machine.execSel d s
  | .rdst => Sys2Proof.Machine.execRdst s
  | .wrCr0 d => Sys2Proof.Machine.execWrCr0 d s
  | .wrCr1 d => Sys2Proof.Machine.execWrCr1 d s
  | .wrCr2 d => Sys2Proof.Machine.execWrCr2 d s
  | .wrCr3 d => Sys2Proof.Machine.execWrCr3 d s
  | .wrCr4 d => Sys2Proof.Machine.execWrCr4 d s
  | .wrCr5 d => Sys2Proof.Machine.execWrCr5 d s
  | .wrCr6 d => Sys2Proof.Machine.execWrCr6 d s
  | .wrCr7 d => Sys2Proof.Machine.execWrCr7 d s
  | .wrCr8 d => Sys2Proof.Machine.execWrCr8 d s
  | .wrCr9 d => Sys2Proof.Machine.execWrCr9 d s
  | .wrCr10 d => Sys2Proof.Machine.execWrCr10 d s
  | .wrCr11 d => Sys2Proof.Machine.execWrCr11 d s
  | .wrCr12 d => Sys2Proof.Machine.execWrCr12 d s
  | .wrCr13 d => Sys2Proof.Machine.execWrCr13 d s
  | .wrCr14 d => Sys2Proof.Machine.execWrCr14 d s
  | .wrCr15 d => Sys2Proof.Machine.execWrCr15 d s
  | .wrCr16 d => Sys2Proof.Machine.execWrCr16 d s
  | .wrCr17 d => Sys2Proof.Machine.execWrCr17 d s
  | .wrCr18 d => Sys2Proof.Machine.execWrCr18 d s
  | .wrCr19 d => Sys2Proof.Machine.execWrCr19 d s
  | .wrCr31 d => Sys2Proof.Machine.execWrCr31 d s
  | .wrUndef al d => Sys2Proof.Machine.execWrUndef al d s
  | .rdCr0 => Sys2Proof.Machine.execRdCr0 s
  | .rdCr1 => Sys2Proof.Machine.execRdCr1 s
  | .rdCr2 => Sys2Proof.Machine.execRdCr2 s
  | .rdCr3 => Sys2Proof.Machine.execRdCr3 s
  | .rdCr4 => Sys2Proof.Machine.execRdCr4 s
  | .rdCr5 => Sys2Proof.Machine.execRdCr5 s
  | .rdCr6 => Sys2Proof.Machine.execRdCr6 s
  | .rdCr7 => Sys2Proof.Machine.execRdCr7 s
  | .rdCr8 => Sys2Proof.Machine.execRdCr8 s
  | .rdCr9 => Sys2Proof.Machine.execRdCr9 s
  | .rdCr10 => Sys2Proof.Machine.execRdCr10 s
  | .rdCr11 => Sys2Proof.Machine.execRdCr11 s
  | .rdCr12 => Sys2Proof.Machine.execRdCr12 s
  | .rdCr13 => Sys2Proof.Machine.execRdCr13 s
  | .rdCr14 => Sys2Proof.Machine.execRdCr14 s
  | .rdCr15 => Sys2Proof.Machine.execRdCr15 s
  | .rdCr16 => Sys2Proof.Machine.execRdCr16 s
  | .rdCr17 => Sys2Proof.Machine.execRdCr17 s
  | .rdCr18 => Sys2Proof.Machine.execRdCr18 s
  | .rdCr19 => Sys2Proof.Machine.execRdCr19 s
  | .rdCr31 => Sys2Proof.Machine.execRdCr31 s
  | .rdUndef al => Sys2Proof.Machine.execRdUndef al s
  | .evLine => Sys2Proof.Machine.execEvLine s
  | .evDeOff => Sys2Proof.Machine.execEvDeOff s
  | .evCurOn => Sys2Proof.Machine.execEvCurOn s
  | .evCurOff => Sys2Proof.Machine.execEvCurOff s
  | .evHsOn => Sys2Proof.Machine.execEvHsOn s
  | .evHsOff => Sys2Proof.Machine.execEvHsOff s
  | .evLpen => Sys2Proof.Machine.execEvLpen s
  | .evUpdAdr => Sys2Proof.Machine.execEvUpdAdr s
  | .evUpdTrans addr strobe => Sys2Proof.Machine.execEvUpdTrans addr strobe s
  | .clk => Sys2Proof.Machine.execClk s
  | .reset => Sys2Proof.Machine.execReset s
  | .lpstb => Sys2Proof.Machine.execLpstb s
  | .scan y => Sys2Proof.Machine.execScan y s
  | .frame y0 y1 => Sys2Proof.Machine.execFrame y0 y1 s
  | .restore => Sys2Proof.Machine.execRestore s

end Sys2Proof.Machine
end

