-- ==== Sys2Proof/Machine/Fetch.lean ====
section
/-! DEFINITION. Where the next operation comes from. The block has no program counter and no instruction stream (R63): a
slot that is due fires before the next operation of the environment (R78, R181), and otherwise the environment's oldest
request is taken (R8, R305). -/

namespace Sys2Proof.Machine

/-- The environment's oldest request, taken off the inbox; a bus word is keyed by the address latch (R91). -/
def State.nextRequest (s : State) : Option (OpWord × State) :=
  match s.inbox with
  | [] => none
  | r :: rest => some (r.toOpWord s.regs.al, { s with inbox := rest })

/-- The next operation and the state after it has been taken. Between the operations of a run nothing is due, because each
ends with `run_due`; a due slot can stand here only in a state that was placed from outside (log 7). Its slot is emptied
before its handler runs (R181). -/
def State.fetch (s : State) : Option (OpWord × State) :=
  if s.fatal then s.nextRequest
  else
    match s.pickDue with
    | some (t, sl) => some (.event t.code sl.payload, s.cancel t)
    | none => s.nextRequest

/-- The slot is kept unless it is due. -/
def keepUndue (now : Nat) (x : Option Slot) : Option Slot :=
  match x with
  | some sl => if sl.dueBy now then none else some sl
  | none => none

/-- Every slot that is due is emptied. -/
def Slots.clearDue (t : Slots) (now : Nat) : Slots :=
  { line := keepUndue now t.line
    deOff := keepUndue now t.deOff
    curOn := keepUndue now t.curOn
    curOff := keepUndue now t.curOff
    hsOn := keepUndue now t.hsOn
    hsOff := keepUndue now t.hsOff
    lpen := keepUndue now t.lpen
    updAdr := keepUndue now t.updAdr
    updTrans := keepUndue now t.updTrans }

/-- Every slot that is due is emptied. -/
def State.clearDue (s : State) : State :=
  { s with sched := { s.sched with slots := s.sched.slots.clearDue s.sched.now } }

/-- A request becomes the next operation: nothing is due, and it stands first in the inbox. -/
def State.placeRequest (s : State) (r : Request) : State :=
  let t := s.clearDue
  { t with inbox := r :: s.inbox }

/-- An operation word becomes the next operation (log 11). A data-port key needs its index in the address latch. An event
needs its slot due now, and no other. -/
def State.place (s : State) : OpWord → State
  | .bus k =>
    let s := s.placeRequest (.bus (busWord (keyRs k) (keyRw k) (keyD k)))
    if keyRs k then { s with regs := { s.regs with al := keyAl k } } else s
  | .event code p =>
    let s := s.clearDue
    match allTags.find? (fun t => t.code == code) with
    | some t =>
      let slots := s.sched.slots.set t (some { due := s.sched.now, seq := 0, payload := p })
      { s with sched := { s.sched with slots := slots } }
    | none => s
  | .call code args => s.placeRequest (.call code args)

end Sys2Proof.Machine
end

