-- ==== Sys2Proof/Machine/Step.lean ====
section
/-! DEFINITION. One step: take the next operation, decode it, run its meaning. With nothing due and nothing requested the
block idles: it changes only inside a step (R8). -/

namespace Sys2Proof.Machine

/-- One step of the machine. -/
def step (s : State) : Host.Outcome State Fault Refusal :=
  match s.fetch with
  | none => .next s
  | some (w, s') =>
    match decode w with
    | .ok i => exec i s'
    | .error e => .refused (.undecodable e)

/-- `s` with the operation of opcode-table bits `w` placed where `step` takes its next operation. -/
def State.withFetchWord (s : State) (nbits w : Nat) : State :=
  match tableWord nbits w with
  | some word => s.place word
  | none => s

end Sys2Proof.Machine
end

