-- ==== Sys2Proof/Safety.lean ====
section
/-! DEFINITION. The terms in which claims about the machine are made: a running machine, a state in which nothing is due,
and the invariant of R61 with what the other rules of spec/ promise of every state between two steps. -/

namespace Sys2Proof

/-- The operation is a bus read. -/
def Instr.isRead : Instr → Bool
  | .rdst | .rdCr0 | .rdCr1 | .rdCr2 | .rdCr3 | .rdCr4 | .rdCr5 | .rdCr6 | .rdCr7 | .rdCr8 | .rdCr9 | .rdCr10 => true
  | .rdCr11 | .rdCr12 | .rdCr13 | .rdCr14 | .rdCr15 | .rdCr16 | .rdCr17 | .rdCr18 | .rdCr19 | .rdCr31 => true
  | .rdUndef _ => true
  | .sel _ | .wrCr0 _ | .wrCr1 _ | .wrCr2 _ | .wrCr3 _ | .wrCr4 _ | .wrCr5 _ | .wrCr6 _ | .wrCr7 _ | .wrCr8 _ => false
  | .wrCr9 _ | .wrCr10 _ | .wrCr11 _ | .wrCr12 _ | .wrCr13 _ | .wrCr14 _ | .wrCr15 _ | .wrCr16 _ | .wrCr17 _ => false
  | .wrCr18 _ | .wrCr19 _ | .wrCr31 _ | .wrUndef _ _ => false
  | .evLine | .evDeOff | .evCurOn | .evCurOff | .evHsOn | .evHsOff | .evLpen | .evUpdAdr | .evUpdTrans _ _ => false
  | .clk | .reset | .lpstb | .scan _ | .frame _ _ | .restore => false

/-- The operation is an internal event (R8, R103). -/
def Instr.isEvent : Instr → Bool
  | .evLine | .evDeOff | .evCurOn | .evCurOff | .evHsOn | .evHsOff | .evLpen | .evUpdAdr | .evUpdTrans _ _ => true
  | .sel _ | .rdst | .wrCr0 _ | .wrCr1 _ | .wrCr2 _ | .wrCr3 _ | .wrCr4 _ | .wrCr5 _ | .wrCr6 _ | .wrCr7 _ => false
  | .wrCr8 _ | .wrCr9 _ | .wrCr10 _ | .wrCr11 _ | .wrCr12 _ | .wrCr13 _ | .wrCr14 _ | .wrCr15 _ | .wrCr16 _ => false
  | .wrCr17 _ | .wrCr18 _ | .wrCr19 _ | .wrCr31 _ | .wrUndef _ _ => false
  | .rdCr0 | .rdCr1 | .rdCr2 | .rdCr3 | .rdCr4 | .rdCr5 | .rdCr6 | .rdCr7 | .rdCr8 | .rdCr9 | .rdCr10 => false
  | .rdCr11 | .rdCr12 | .rdCr13 | .rdCr14 | .rdCr15 | .rdCr16 | .rdCr17 | .rdCr18 | .rdCr19 | .rdCr31 => false
  | .rdUndef _ => false
  | .clk | .reset | .lpstb | .scan _ | .frame _ _ | .restore => false

end Sys2Proof

namespace Sys2Proof.Machine

/-- The machine has not been stopped by `FATAL` (R57, R302). -/
abbrev State.Live (s : State) : Prop := s.fatal = false

/-- The slot, if it is pending, is due after `now`. -/
def futureSlot (now : Nat) : Option Slot → Bool
  | none => true
  | some sl => decide (now < sl.due)

/-- Nothing is due: every pending slot is due after `now`. R181: this holds after every `run_due` that the fault does not
stop, and so between any two operations. -/
def State.quiet (s : State) : Bool := allTags.all fun t => futureSlot s.sched.now (s.slot t)

/-- A running machine between two operations: not stopped, and nothing due. -/
abbrev State.Ready (s : State) : Prop := s.fatal = false ∧ s.quiet = true

/-- The slot, if it is pending, is not due before `now` (R61). -/
def notPast (now : Nat) : Option Slot → Bool
  | none => true
  | some sl => decide (now ≤ sl.due)

/-- The HSYNC width counter and the clocks that `T[HS_OFF]` still has to wait make at most 16 (R45: the counter holds 0 to
16). -/
def hswBound (now : Nat) (hsw : BitVec 5) : Option Slot → Bool
  | none => decide (hsw.toNat ≤ 16)
  | some sl => decide (hsw.toNat + (sl.due - now) ≤ 16)

/-- What holds of every state between two steps: R61, and the promises of R46, R182, R195, R223, R242, R275, R277, R302. The
widths of R61 hold by the types. -/
structure Inv (s : State) : Prop where
  /-- R61: `AL < 2^CFG.addr_bits`. -/
  latchInRange : s.regs.al.toNat < 2 ^ s.cfg.addrBits.bits
  /-- R61: `T[LINE]` is pending unless `fatal`. -/
  lineArmed : s.fatal = true ∨ (s.slot .line).isSome = true
  /-- R61: every pending slot has `due >= now`. -/
  noSlotPast : ∀ t : Tag, notPast s.sched.now (s.slot t) = true
  /-- R181: nothing is due between two operations, unless the fault has stopped the machine. -/
  quietOrFatal : s.fatal = true ∨ s.quiet = true
  /-- R61: `hsw_ctr <= 16`. -/
  hswInRange : hswBound s.sched.now s.ctr.hswCtr (s.slot .hsOff) = true
  /-- R195, R196 (R61's clause on `T[CUR_OFF]`): `CURSOR` is high exactly while `T[CUR_OFF]` is pending. -/
  cursorLevel : s.sig.cursor = (s.slot .curOff).isSome
  /-- R193, R194: `HSYNC` is high exactly while `T[HS_OFF]` is pending. -/
  hsyncLevel : s.sig.hsync = (s.slot .hsOff).isSome
  /-- R46: `vsync_ff` differs from the `VSYNC` level only inside `EV.LINE`. -/
  vsyncLevel : s.sig.vsync = s.ctr.vsyncFf
  /-- R191: DE is high only while `line_enable` is set. -/
  deNeedsLineEnable : s.sig.de = true → s.ctr.lineEnable = true
  /-- R189: while DE is high its fall is scheduled. -/
  deFallScheduled : s.sig.de = true → (s.slot .deOff).isSome = true
  /-- R275: `EV.UPD_ADR` fires only with `DE = 0`. -/
  updAdrNeedsBlank : (s.slot .updAdr).isSome = true → s.sig.de = false
  /-- R277: with `CFG.transparent` false no update is ever pending. -/
  transparentOnly : s.cfg.transparent = false →
    s.ctr.updateReady = true ∧ s.slot .updAdr = none ∧ s.slot .updTrans = none
  /-- R242: `G.valid` is a function of the eight numbers. -/
  geomValid : s.geo.valid = s.geo.nums.isValid
  /-- R61: `G.hs_off <= G.h_total_px`. -/
  hsOffClamped : s.geo.nums.hsOff ≤ s.geo.nums.hTotalPx
  /-- R61: `G.vs_off <= G.v_total_px`. -/
  vsOffClamped : s.geo.nums.vsOff ≤ s.geo.nums.vTotalPx
  /-- R302: on a well-formed configuration `FATAL` is unreachable. -/
  liveIfWf : s.cfg.wf = true → s.fatal = false

/-- The state with another running address of the bridge. -/
def State.withCda (s : State) (a : Addr) : State := { s with ctr := { s.ctr with cda := a } }

/-! ### The levels a consumer reads from the records -/

/-- The levels after one record; `none` when the record repeats the level that already stands (R54: a notification only on
an actual level change). -/
def applyRecord (g : Signals) : Output → Option Signals
  | .de v => if g.de = v then none else some { g with de := v }
  | .hsync v => if g.hsync = v then none else some { g with hsync := v }
  | .vsync v => if g.vsync = v then none else some { g with vsync := v }
  | .cursor v => if g.cursor = v then none else some { g with cursor := v }
  | .geom _ => some g
  | .originReset => some g
  | .row _ => some g
  | .update _ _ => some g

/-- The levels a consumer has after a list of records, from `g`. -/
def trackLevels (g : Signals) : List Output → Option Signals
  | [] => some g
  | o :: rest =>
    match applyRecord g o with
    | some g' => trackLevels g' rest
    | none => none

/-! ### The line tick in closed form

What R184 to R191 say of one tick, as conditions on the state before it and values after it, without the steps in
between. -/

/-- The tick ends a character row (R186). -/
def State.tickRowEnd (s : State) : Bool := decide (s.ctr.ra.toNat + 1 = s.ch)

/-- The tick enters vertical adjust (R186). -/
def State.tickEnter (s : State) : Bool := s.tickRowEnd && decide (s.ctr.lc = s.regs.vtotal)

/-- The tick is in vertical adjust (R188). -/
def State.tickAdjusting (s : State) : Bool := s.tickEnter || s.ctr.adjActive

/-- The count that is compared with `CR.vtotal_adj` (R188). -/
def State.tickAdjCount (s : State) : BitVec 5 := if s.tickEnter then 0 else s.ctr.adjCtr

/-- The tick restarts the frame (R188). -/
def State.tickRestart (s : State) : Bool := s.tickAdjusting && decide (s.tickAdjCount = s.regs.vtotalAdj)

/-- The frame-start comparison of a variant that has it (R188). -/
def State.tickRecheck (s : State) : Bool := s.tickRestart && s.cfg.vswField

/-- The tick starts VSYNC (R187). -/
def State.tickVsyncStart (s : State) : Bool :=
  (s.tickRowEnd && decide (s.ctr.lc + 1 = s.regs.vsyncPos)) || (s.tickRecheck && decide (s.regs.vsyncPos = 0))

/-- The tick ends VSYNC (R185). -/
def State.tickVsyncEnd (s : State) : Bool := s.ctr.vsyncFf && decide (s.ctr.vswCtr + 1 = s.vswCmp)

/-- `line_enable` after the tick (R187, R188). -/
def State.tickLineEnable (s : State) : Bool :=
  if s.tickRestart then !(s.tickRecheck && decide (s.regs.vdisp = 0))
  else s.ctr.lineEnable && !(s.tickRowEnd && decide (s.ctr.lc + 1 = s.regs.vdisp))

/-- `cursor_state` after a frame restart (R226): the modes always-on, always-off, and a toggle each 16 or 32 frames. -/
def State.tickCursorState (s : State) : Bool :=
  match s.blinkMode.toNat with
  | 0 => true
  | 1 => false
  | 2 => if (s.ctr.blinkCtr.toNat + 1) % 16 = 0 then !s.ctr.cursorState else s.ctr.cursorState
  | _ => if (s.ctr.blinkCtr.toNat + 1) % 32 = 0 then !s.ctr.cursorState else s.ctr.cursorState

/-- The VSYNC level after the tick (R184, R185, R187). -/
def State.tickVsync (s : State) : Bool :=
  if s.tickVsyncStart then true else if s.tickVsyncEnd then false else s.sig.vsync

end Sys2Proof.Machine
end

