-- ==== Sys2Proof/Certificates/Slice0/Obligations.lean ====
section
/-! DEFINITION. The statements for the provers. Each says in its docstring which rule of spec/ it formalises; where a rule
carries a mark of the spec's own decision (D<n>) or a choice of the model (log n), the docstring names it. -/

open Sys2Proof Sys2Proof.Machine

/-! ### Encoding -/

/-- R91, R93, R103, R104: what the encoder writes, the decoder reads back, for every well-formed operation and every
operand. -/
def Obligations.DecodeInvertsEncode : Prop :=
  ∀ i : Instr, i.wf = true → decode (encode i) = .ok i

/-- R91, R93, R101, R107: every key decodes to a well-formed operation, and encoding that operation gives the key back, but
for the bits the table marks as not matched or ignored. -/
def Obligations.EncodeRecoversTheKey : Prop :=
  ∀ k : BitVec 16,
    (decodeBus k).wf = true ∧
    encode (decodeBus k) =
      .bus (busKey (keyRs k) (keyRw k) (if keyRs k then keyAl k else 0) (if keyRw k then 0 else keyD k))

/-- R91, R103, R104, R121 to R166: some words written out from the spec's encodings decode to the operations they stand
for. -/
def Obligations.SpecWordsDecode : Prop :=
  decode (.bus 0b0000000000101100) = .ok (.sel 0x2C) ∧
  decode (.bus 0b0100000000000000) = .ok .rdst ∧
  decode (.bus 0b1000000000110001) = .ok (.wrCr0 49) ∧
  decode (.bus 0b1000101101111111) = .ok (.wrCr11 0x7F) ∧
  decode (.bus 0b1001111101010101) = .ok (.wrCr31 0x55) ∧
  decode (.bus 0b1001100111111111) = .ok (.wrUndef 25 0xFF) ∧
  decode (.bus 0b1100111000000000) = .ok .rdCr14 ∧
  decode (.bus 0b1101111100000000) = .ok .rdCr31 ∧
  decode (.bus 0b1110100000000000) = .ok (.rdUndef 40) ∧
  decode (.event 0b0000 Payload.empty) = .ok .evLine ∧
  decode (.event 0b1000 { addr := 0x1FF, strobe := true }) = .ok (.evUpdTrans 0x1FF true) ∧
  decode (.call 0b000 []) = .ok .clk ∧
  decode (.call 0b100 [0, 4]) = .ok (.frame 0 4)

/-- R103, R104 (log 9 for the refusal): a request that R104 defines always decodes; a code or an argument count that R103
and R104 do not define is rejected by name. -/
def Obligations.OnlyUndefinedCodesAreRejected : Prop :=
  (∀ (r : Request) (al : Index), r.wf = true → ∃ i, decode (r.toOpWord al) = .ok i) ∧
  (∀ (c : BitVec 4) (p : Payload), 9 ≤ c.toNat → decode (.event c p) = .error (.unknownTag c)) ∧
  (∀ (c : BitVec 3) (a : List Nat), 6 ≤ c.toNat → decode (.call c a) = .error (.unknownOp c)) ∧
  (∀ (c : BitVec 3) (a : List Nat), c.toNat < 6 → (Request.call c a).wf = false →
    decode (.call c a) = .error (.argumentCount c a.length))

/-! ### Step -/

/-- R8, R78, R181: a step runs the decoded operation. When nothing is due, or the machine is stopped, it takes the
environment's oldest request; a due slot comes first; with neither, the block stands still; a request that does not decode is
refused. The model's choices: the list of requests (log 3), the step on a due slot (log 7), and the refusal, which R9 does not
know and only a code outside R103 and R104 can meet (log 9). -/
def Obligations.StepRunsTheDecodedOperation : Prop :=
  ∀ s : State,
    (∀ r rest i, s.inbox = r :: rest → (s.fatal = true ∨ s.quiet = true) →
      decode (r.toOpWord s.regs.al) = .ok i → step s = exec i { s with inbox := rest }) ∧
    (∀ t sl i, s.fatal = false → s.pickDue = some (t, sl) →
      decode (.event t.code sl.payload) = .ok i → step s = exec i (s.cancel t)) ∧
    (s.inbox = [] → (s.fatal = true ∨ s.quiet = true) → step s = .next s) ∧
    (∀ r rest e, s.inbox = r :: rest → (s.fatal = true ∨ s.quiet = true) →
      decode (r.toOpWord s.regs.al) = .error e → step s = .refused (.undecodable e))

/-- The model's placement (log 11): an operation word that is placed is the next operation fetched, and the state it then
runs from differs from the one it was placed in at most in the address latch, in the slots that were due, which are emptied,
and in the slot of a placed event, which is empty. -/
def Obligations.PlacedOperationIsFetchedNext : Prop :=
  ∀ (s : State) (w : OpWord) (i : Instr), s.fatal = false → decode w = .ok i →
    ∃ w' s', (s.place w).fetch = some (w', s') ∧ decode w' = .ok i ∧ step (s.place w) = exec i s' ∧
      s'.cfg = s.cfg ∧ s'.regs = { s.regs with al := s'.regs.al } ∧ s'.ctr = s.ctr ∧ s'.sig = s.sig ∧
      s'.geo = s.geo ∧ s'.sched.now = s.sched.now ∧ s'.sched.seq = s.sched.seq ∧ s'.fatal = s.fatal ∧
      s'.trace = s.trace ∧ s'.rdata = s.rdata ∧ s'.inbox = s.inbox ∧
      ∀ t,
        (s.slot t = none → s'.slot t = none) ∧
        ∀ sl, s.slot t = some sl →
          (sl.due ≤ s.sched.now → s'.slot t = none) ∧
          (s.sched.now < sl.due →
            s'.slot t = some sl ∨ (s'.slot t = none ∧ ∃ p, w = .event t.code p))

/-! ### Scheduler -/

/-- R180 (the spec's decision D9): `schedule` replaces the tag's slot and takes the next sequence number, `cancel` empties it,
and neither touches anything else. -/
def Obligations.ScheduleReplacesTheSlot : Prop :=
  ∀ (s : State) (t u : Tag) (d : Nat) (p : Payload),
    (s.scheduleWith t d p).slot u =
      (if u = t then some { due := s.sched.now + d, seq := s.sched.seq, payload := p } else s.slot u) ∧
    (s.scheduleWith t d p).sched.seq = s.sched.seq + 1 ∧ (s.scheduleWith t d p).sched.now = s.sched.now ∧
    ({ s.scheduleWith t d p with sched := s.sched } : State) = s ∧
    (s.cancel t).slot u = (if u = t then none else s.slot u) ∧
    (s.cancel t).sched.seq = s.sched.seq ∧ (s.cancel t).sched.now = s.sched.now ∧
    ({ s.cancel t with sched := s.sched } : State) = s

/-- R181, R307 (D9): the slot that fires next is pending, due, and has the least sequence number of those that are; none is
picked exactly when nothing is due. -/
def Obligations.PickDueTakesTheLeastSequenceNumber : Prop :=
  ∀ s : State,
    (∀ t sl, s.pickDue = some (t, sl) →
      s.slot t = some sl ∧ sl.due ≤ s.sched.now ∧
      ∀ u sl', s.slot u = some sl' → sl'.due ≤ s.sched.now → sl.seq ≤ sl'.seq) ∧
    (s.pickDue = none ↔ s.quiet = true)

/-- R181 (D9), "The loop terminates": from every state of every configuration `run_due` ends with nothing due, or stopped by
the fault. The bound on its rounds (log 7) is never what ends it. -/
def Obligations.RunDueLeavesNothingDue : Prop :=
  ∀ s : State, s.runDue.fatal = true ∨ s.runDue.quiet = true

/-- R181 (D9): `run_due` is the unbounded loop of the rule: it ends when the machine is stopped or nothing is due, and
otherwise empties the picked slot, fires its event and goes on. -/
def Obligations.RunDueIsTheLoopOfTheRule : Prop :=
  ∀ s : State,
    (s.fatal = true → s.runDue = s) ∧ (s.quiet = true → s.runDue = s) ∧
    ∀ t sl, s.fatal = false → s.pickDue = some (t, sl) →
      s.runDue = ((s.cancel t).fire sl.payload t).runDue

/-! ### Data-port writes -/

/-- R123 to R134, R93, R120 (D2, D3, D8): a write of CR0 to CR11 stores the byte under the register's mask and ends with the
recompute. Nothing else happens but what the recompute does (`RecomputeRestartsTheLineOnlyOnAChange`). -/
def Obligations.RegisterWritesStoreTheMaskedByte : Prop :=
  ∀ (s : State) (d : Byte), s.Ready →
    exec (.wrCr0 d) s = .next (({ s with regs := { s.regs with htotal := d } } : State).recompute false) ∧
    exec (.wrCr1 d) s = .next (({ s with regs := { s.regs with hdisp := d } } : State).recompute false) ∧
    exec (.wrCr2 d) s = .next (({ s with regs := { s.regs with hsyncPos := d } } : State).recompute false) ∧
    exec (.wrCr3 d) s = .next (({ s with regs := { s.regs with syncWidth := d } } : State).recompute false) ∧
    exec (.wrCr4 d) s = .next (({ s with regs := { s.regs with
      vtotal := BitVec.ofNat 7 (d.toNat % 128) } } : State).recompute false) ∧
    exec (.wrCr5 d) s = .next (({ s with regs := { s.regs with
      vtotalAdj := BitVec.ofNat 5 (d.toNat % 32) } } : State).recompute false) ∧
    exec (.wrCr6 d) s = .next (({ s with regs := { s.regs with
      vdisp := BitVec.ofNat 7 (d.toNat % 128) } } : State).recompute false) ∧
    exec (.wrCr7 d) s = .next (({ s with regs := { s.regs with
      vsyncPos := BitVec.ofNat 7 (d.toNat % 128) } } : State).recompute false) ∧
    exec (.wrCr8 d) s = .next (({ s with regs := { s.regs with mode := d } } : State).recompute false) ∧
    exec (.wrCr9 d) s = .next (({ s with regs := { s.regs with
      maxRas := BitVec.ofNat 5 (d.toNat % 32) } } : State).recompute false) ∧
    exec (.wrCr10 d) s = .next (({ s with regs := { s.regs with
      curStart := BitVec.ofNat 7 (d.toNat % 128) } } : State).recompute false) ∧
    exec (.wrCr11 d) s = .next (({ s with regs := { s.regs with
      curEnd := BitVec.ofNat 5 (d.toNat % 32) } } : State).recompute false)

/-- R136, R138: a write of CR13 or CR15 replaces the low byte of the pair and keeps the high six bits, then ends with the
recompute of R120. -/
def Obligations.LowAddressByteWrites : Prop :=
  ∀ (s : State) (d : Byte), s.Ready →
    decode (.bus (busKey true false 13 d)) = .ok (.wrCr13 d) ∧
    decode (.bus (busKey true false 15 d)) = .ok (.wrCr15 d) ∧
    exec (.wrCr13 d) s = .next (({ s with regs := { s.regs with
      dispStart := BitVec.ofNat 14 (s.regs.dispStart.toNat / 256 * 256 + d.toNat) } } : State).recompute false) ∧
    exec (.wrCr15 d) s = .next (({ s with regs := { s.regs with
      cursorAddr := BitVec.ofNat 14 (s.regs.cursorAddr.toNat / 256 * 256 + d.toNat) } } : State).recompute false)

/-- R135, R137, R99 (D3, D37): a write of CR12 or CR14 replaces the high six bits of the pair by the low six of the byte and
keeps the low byte, then ends with the recompute; neither register enters the geometry. -/
def Obligations.HighAddressByteWrites : Prop :=
  ∀ (s : State) (d : Byte), s.Ready →
    (let u : State := { s with regs := { s.regs with
        dispStart := BitVec.ofNat 14 (d.toNat % 64 * 256 + s.regs.dispStart.toNat % 256) } }
     exec (.wrCr12 d) s = .next (u.recompute false) ∧ u.deriveGeom = s.deriveGeom) ∧
    (let u : State := { s with regs := { s.regs with
        cursorAddr := BitVec.ofNat 14 (d.toNat % 64 * 256 + s.regs.cursorAddr.toNat % 256) } }
     exec (.wrCr14 d) s = .next (u.recompute false) ∧ u.deriveGeom = s.deriveGeom)

/-- R139, R140: a write of the read-only CR16 or CR17 stores nothing and leaves `lpen_latched`; then the recompute of
R120. -/
def Obligations.LightPenWritesStoreNothing : Prop :=
  ∀ (s : State) (d : Byte), s.Ready →
    decode (.bus (busKey true false 16 d)) = .ok (.wrCr16 d) ∧
    decode (.bus (busKey true false 17 d)) = .ok (.wrCr17 d) ∧
    ∃ t, exec (.wrCr16 d) s = .next t ∧ exec (.wrCr17 d) s = .next t ∧ t = s.recompute false ∧
      t.regs = s.regs ∧ t.ctr.lpenLatched = s.ctr.lpenLatched

/-- R144, R101 (D7): a write of any undefined index stores nothing; then the recompute of R120. -/
def Obligations.UndefinedIndexWritesStoreNothing : Prop :=
  ∀ (s : State) (al : Index) (d : Byte), s.Ready → exec (.wrUndef al d) s = .next (s.recompute false)

/-- R141, R142, R273, R276 (D26): a write of CR18 or CR19 stores nothing on a variant without transparent mode; otherwise it
stores its half of the address; and in the immediate mode it presents the new address in the same instant, after the
recompute. -/
def Obligations.UpdateAddressWrites : Prop :=
  ∀ (s : State) (d : Byte), s.Ready →
    (s.cfg.transparent = false →
      exec (.wrCr18 d) s = .next (s.recompute false) ∧ exec (.wrCr19 d) s = .next (s.recompute false)) ∧
    (s.cfg.transparent = true →
      let hi := BitVec.ofNat 14 (d.toNat % 64 * 256 + s.regs.updateAddr.toNat % 256)
      let lo := BitVec.ofNat 14 (s.regs.updateAddr.toNat / 256 * 256 + d.toNat)
      let u : State := { s with regs := { s.regs with updateAddr := hi } }
      let v : State := { s with regs := { s.regs with updateAddr := lo } }
      (s.regs.mode &&& 0x88 ≠ 0x88 →
        exec (.wrCr18 d) s = .next (u.recompute false) ∧ exec (.wrCr19 d) s = .next (v.recompute false)) ∧
      (s.regs.mode &&& 0x88 = 0x88 → s.cfg.updHandler = true →
        exec (.wrCr18 d) s = .next ((((u.scheduleWith .updTrans 0
          { addr := hi, strobe := s.regs.mode.getLsbD 6 }).recompute false).cancel .updTrans).emit
            (.update hi (s.regs.mode.getLsbD 6))) ∧
        exec (.wrCr19 d) s = .next ((((v.scheduleWith .updTrans 0
          { addr := lo, strobe := s.regs.mode.getLsbD 6 }).recompute false).cancel .updTrans).emit
            (.update lo (s.regs.mode.getLsbD 6)))))

/-! ### Transparent update through CR31 -/

/-- R143, R165, R272 (D26): on a variant without transparent mode, or with the mode disabled, an access of CR31 updates
nothing; a read returns 0x00, a write ends with the recompute. -/
def Obligations.Cr31IsInertOutsideTransparentMode : Prop :=
  ∀ (s : State) (d : Byte), s.Ready → (s.cfg.transparent = false ∨ s.regs.mode.getLsbD 3 = false) →
    exec .rdCr31 s = .next { s with rdata := 0 } ∧ exec (.wrCr31 d) s = .next (s.recompute false)

/-- R143, R165, R272, R276 (D26): in the immediate mode an access of CR31 increments the address and presents the new one in
the same instant; `update_ready` does not move. -/
def Obligations.Cr31ImmediateUpdate : Prop :=
  ∀ (s : State) (d : Byte), s.Ready → s.cfg.transparent = true → s.cfg.updHandler = true →
    s.regs.mode &&& 0x88 = 0x88 →
    let a := s.regs.updateAddr + 1
    let b := s.regs.mode.getLsbD 6
    let u := ({ s with regs := { s.regs with updateAddr := a } } : State).scheduleWith .updTrans 0
      { addr := a, strobe := b }
    exec .rdCr31 s = .next { (u.cancel .updTrans).emit (.update a b) with rdata := 0 } ∧
    exec (.wrCr31 d) s = .next (((u.recompute false).cancel .updTrans).emit (.update a b))

/-- R143, R165, R272, R274 (D26): in the blanking mode an access of CR31 clears `update_ready` and, with DE low, starts the
update-address timer; while a request is outstanding it does nothing. -/
def Obligations.Cr31BlankingRequest : Prop :=
  ∀ (s : State) (d : Byte), s.Ready → s.cfg.transparent = true → 0 < s.cfg.updDelay →
    s.regs.mode &&& 0x88 = 0x08 →
    let u : State :=
      if s.ctr.updateReady = false then s
      else if s.sig.de = true then { s with ctr := { s.ctr with updateReady := false } }
      else ({ s with ctr := { s.ctr with updateReady := false } } : State).schedule .updAdr s.cfg.updDelay
    exec .rdCr31 s = .next { u with rdata := 0 } ∧ exec (.wrCr31 d) s = .next (u.recompute false)

/-! ### The fault -/

/-- R301, R273 (D26, D27): without a handler the first attempt to present an address sets `fatal`; what the operation had
already done stays, and the closing recompute and `run_due` do not run. The model's choices: the fault is a next state with
the flag set (log 2), a transparent chip without a handler runs at all (log 8), and the byte of the faulting read of CR31
is 0x00 (log 16). -/
def Obligations.MissingHandlerRaisesFatal : Prop :=
  ∀ (s : State) (d : Byte), s.fatal = false → s.cfg.updHandler = false →
    exec .evUpdAdr s = .next { s with fatal := true } ∧
    (s.cfg.transparent = true → s.regs.mode &&& 0x88 = 0x88 →
      exec (.wrCr18 d) s = .next { s with fatal := true, regs := { s.regs with
        updateAddr := BitVec.ofNat 14 (d.toNat % 64 * 256 + s.regs.updateAddr.toNat % 256) } } ∧
      exec (.wrCr19 d) s = .next { s with fatal := true, regs := { s.regs with
        updateAddr := BitVec.ofNat 14 (s.regs.updateAddr.toNat / 256 * 256 + d.toNat) } } ∧
      exec (.wrCr31 d) s = .next { s with fatal := true, regs := { s.regs with
        updateAddr := s.regs.updateAddr + 1 } } ∧
      exec .rdCr31 s = .next { s with fatal := true, rdata := 0, regs := { s.regs with
        updateAddr := s.regs.updateAddr + 1 } })

/-- R302 (D27): after `FATAL` every operation of every kind is a no-op, and a read returns 0x00. -/
def Obligations.FatalIsAbsorbing : Prop :=
  ∀ (i : Instr) (s : State), s.fatal = true →
    exec i s = .next (if i.isRead then { s with rdata := 0 } else s)

/-! ### Address port and data-port reads -/

/-- R121: `SEL` loads the low `CFG.addr_bits` bits of the byte into the address latch; nothing else changes, and there is no
recompute. -/
def Obligations.SelLoadsTheMaskedIndex : Prop :=
  ∀ (s : State) (al : Index) (d : Byte), s.Ready →
    decode (.bus (busKey false false al d)) = .ok (.sel d) ∧
    exec (.sel d) s = .next { s with regs := { s.regs with
      al := BitVec.ofNat 6 (d.toNat % 2 ^ s.cfg.addrBits.bits) } }

/-- R122, R98 (D5): `RDST` returns bits 7, 6 and 5 under their configuration flags and 0 elsewhere; no state element
changes. -/
def Obligations.StatusReadReturnsTheThreeFlags : Prop :=
  ∀ s : State, s.Ready →
    ∃ b : Byte, exec .rdst s = .next { s with rdata := b } ∧
      b.getLsbD 7 = (s.cfg.statusD7 && s.ctr.updateReady) ∧
      b.getLsbD 6 = (s.cfg.statusD6 && s.ctr.lpenLatched) ∧
      b.getLsbD 5 = (s.cfg.statusD5 && !s.ctr.lineEnable) ∧
      ∀ j < 5, b.getLsbD j = false

/-- R145 to R156, R163, R164, R166 (D7): a read of a write-only or undefined register returns 0x00 and changes no state
element. -/
def Obligations.WriteOnlyAndUndefinedReadsReturnZero : Prop :=
  ∀ (s : State) (al : Index), s.Ready →
    ∀ i ∈ [Instr.rdCr0, .rdCr1, .rdCr2, .rdCr3, .rdCr4, .rdCr5, .rdCr6, .rdCr7, .rdCr8, .rdCr9, .rdCr10, .rdCr11,
      .rdCr18, .rdCr19, .rdUndef al], exec i s = .next { s with rdata := 0 }

/-- R157, R158: CR12 and CR13 read back the display start where `CFG.start_readback` says so and 0x00 elsewhere; no state
element changes. -/
def Obligations.DisplayStartReadsBackWhereConfigured : Prop :=
  ∀ (s : State) (d : Byte), s.Ready →
    decode (.bus (busKey true true 12 d)) = .ok .rdCr12 ∧
    decode (.bus (busKey true true 13 d)) = .ok .rdCr13 ∧
    exec .rdCr12 s = .next { s with rdata :=
      if s.cfg.startReadback then BitVec.ofNat 8 (s.regs.dispStart.toNat / 256) else 0 } ∧
    exec .rdCr13 s = .next { s with rdata :=
      if s.cfg.startReadback then BitVec.ofNat 8 (s.regs.dispStart.toNat % 256) else 0 }

/-- R159, R160 (D3): CR14 and CR15 read back the cursor address; no state element changes. -/
def Obligations.CursorAddressReadsBack : Prop :=
  ∀ s : State, s.Ready →
    exec .rdCr14 s = .next { s with rdata := BitVec.ofNat 8 (s.regs.cursorAddr.toNat / 256) } ∧
    exec .rdCr15 s = .next { s with rdata := BitVec.ofNat 8 (s.regs.cursorAddr.toNat % 256) }

/-- R161, R162: a read of either half of the light-pen address returns it, clears `lpen_latched`, so that status bit 6 reads
0, and keeps the address. -/
def Obligations.LightPenReadsClearTheLatch : Prop :=
  ∀ (s : State) (d : Byte), s.Ready →
    decode (.bus (busKey true true 16 d)) = .ok .rdCr16 ∧
    decode (.bus (busKey true true 17 d)) = .ok .rdCr17 ∧
    (let t : State := { s with
        ctr := { s.ctr with lpenLatched := false }, rdata := BitVec.ofNat 8 (s.regs.lpenAddr.toNat / 256) }
     exec .rdCr16 s = .next t ∧ t.statusByte.getLsbD 6 = false) ∧
    (let t : State := { s with
        ctr := { s.ctr with lpenLatched := false }, rdata := BitVec.ofNat 8 (s.regs.lpenAddr.toNat % 256) }
     exec .rdCr17 s = .next t ∧ t.statusByte.getLsbD 6 = false)

/-! ### Geometry -/

/-- R242, with the eight values of R240, R241 and R197, the test of R243, the record of R244 and the restart of R245 (D20 to
D22): the values are these formulas of the registers. The recompute does nothing when they are the cached ones and it is not
forced; otherwise it emits this `GEOM` record exactly when they are valid, stores them and their validity, and unless
restoring puts `T[LINE]` one line period ahead and clears `cc`; it changes nothing else. -/
def Obligations.RecomputeRestartsTheLineOnlyOnAChange : Prop :=
  ∀ (s : State) (restore : Bool),
    let hpix : Int := s.cfg.hpix
    let ch : Int := s.regs.maxRas.toNat + (if s.regs.mode.toNat % 4 = 3 then s.cfg.adjInt else s.cfg.adjNonint : Nat)
    let hsw : Nat := if s.regs.syncWidth.toNat % 16 = 0 then 16 else s.regs.syncWidth.toNat % 16
    let vsw : Nat :=
      if s.cfg.vswField = true ∧ s.regs.syncWidth.toNat / 16 ≠ 0 then s.regs.syncWidth.toNat / 16 else 16
    let hTotal : Int := (s.regs.htotal.toNat + 1) * hpix
    let vTotal : Int := (s.regs.vtotal.toNat + 1) * ch + s.regs.vtotalAdj.toNat
    let g : GeomNums :=
      { hTotalPx := hTotal
        vTotalPx := vTotal
        maxX := s.regs.hdisp.toNat * hpix - 1
        maxY := s.regs.vdisp.toNat * ch - 1
        hsOn := s.regs.hsyncPos.toNat * hpix
        hsOff := min (s.regs.hsyncPos.toNat * hpix + hsw * hpix) hTotal
        vsOn := s.regs.vsyncPos.toNat * ch
        vsOff := min (s.regs.vsyncPos.toNat * ch + vsw) vTotal }
    let record : GeomRecord :=
      { width := hTotal
        height := vTotal
        minX := 0
        maxX := s.regs.hdisp.toNat * hpix - 1
        minY := 0
        maxY := s.regs.vdisp.toNat * ch - 1
        refresh := (s.regs.htotal.toNat + 1) * vTotal }
    let next : Slot :=
      { due := s.sched.now + (s.regs.htotal.toNat + 1), seq := s.sched.seq, payload := Payload.empty }
    s.deriveGeom = g ∧
    (restore = false → g = s.geo.nums → s.recompute restore = s) ∧
    (restore = true ∨ g ≠ s.geo.nums →
      s.recompute restore =
        { s with
          trace := s.trace ++ (if g.isValid then [.geom record] else [])
          geo := { nums := g, valid := g.isValid }
          ctr := if restore then s.ctr else { s.ctr with cc := 0 }
          sched := if restore then s.sched else
            { now := s.sched.now
              seq := s.sched.seq + 1
              slots := s.sched.slots.set .line (some next) } })

/-- R248 (derived in the spec from R242 and R245), E2: a second recompute changes nothing, and the values do not depend on
anything the recompute writes. -/
def Obligations.RecomputeIsIdempotent : Prop :=
  ∀ (s : State) (restore : Bool), (s.recompute restore).recompute false = s.recompute restore

/-- R197 (D17): the character height. R243, R240, R241 (D20, D21): on a well-formed configuration the derived values are
valid exactly when a column and a row are displayed, both lie inside the totals, and both sync pulses start before their
totals. A line that is displayed to its last column, `CR.hdisp = CR.htotal + 1`, is valid by R243, against a remark of R329
(log 15). -/
def Obligations.ValidityOfDerivedGeometry : Prop :=
  ∀ s : State,
    s.ch = s.regs.maxRas.toNat + (if s.regs.mode.toNat % 4 = 3 then s.cfg.adjInt else s.cfg.adjNonint) ∧
    (s.cfg.wf = true →
      (s.deriveGeom.isValid = true ↔
        0 < s.regs.hdisp.toNat ∧ s.regs.hdisp.toNat ≤ s.regs.htotal.toNat + 1 ∧
        0 < s.regs.vdisp.toNat ∧
        s.regs.vdisp.toNat * s.ch ≤ (s.regs.vtotal.toNat + 1) * s.ch + s.regs.vtotalAdj.toNat ∧
        s.regs.hsyncPos.toNat < s.regs.htotal.toNat + 1 ∧
        s.regs.vsyncPos.toNat * s.ch < (s.regs.vtotal.toNat + 1) * s.ch + s.regs.vtotalAdj.toNat))

/-! ### Signals -/

/-- R220, R221, R222: a set to the level that stands does nothing; a change writes the level and emits one record. -/
def Obligations.SyncAndCursorSettersEmitOnChange : Prop :=
  ∀ (s : State) (v : Bool),
    s.setHsync v = (if s.sig.hsync = v then s else
      { s with sig := { s.sig with hsync := v }, trace := s.trace ++ [.hsync v] }) ∧
    s.setVsync v = (if s.sig.vsync = v then s else
      { s with sig := { s.sig with vsync := v }, trace := s.trace ++ [.vsync v] }) ∧
    s.setCur v = (if s.sig.cursor = v then s else
      { s with sig := { s.sig with cursor := v }, trace := s.trace ++ [.cursor v] })

/-- R223, R274 (D26): `set_de` to the level that stands does nothing; a change writes the level, emits one record, and as its
hook cancels the update-address timer on the rise, and starts it on the fall with a request outstanding on a transparent
variant; nothing else changes. -/
def Obligations.SetDeCancelsOrStartsTheUpdateTimer : Prop :=
  ∀ (s : State) (v : Bool),
    (s.sig.de = v → s.setDe v = s) ∧
    (s.sig.de ≠ v →
      s.setDe v = { s with
        sig := { s.sig with de := v }
        trace := s.trace ++ [.de v]
        sched :=
          if v then (s.cancel .updAdr).sched
          else if s.ctr.updateReady = false ∧ s.cfg.transparent = true then
            (s.schedule .updAdr s.cfg.updDelay).sched
          else s.sched })

/-! ### The line tick -/

/-- R183 to R188, R226 (D10, D12 to D15, D17, D19): every counter and flag after one line tick, in closed form, and what a
tick does not change besides: configuration, registers, geometry cache, fault flag, last read byte and requests. Its slots are
in `LineTickSlots`, its signals and records in `LineTickLevelsAndRecords`. -/
def Obligations.LineTickCounters : Prop :=
  ∀ s : State, s.fatal = false →
    ∃ t, exec .evLine s = .next t ∧
      t.ctr = { s.ctr with
        cc := 0
        ra := if s.tickRestart || s.tickRowEnd then 0 else s.ctr.ra + 1
        lc := if s.tickRestart then 0 else if s.tickRowEnd then s.ctr.lc + 1 else s.ctr.lc
        lineAddr := if s.tickRestart then s.regs.dispStart
          else if s.tickRowEnd then BitVec.ofNat 14 (s.ctr.lineAddr.toNat + s.regs.hdisp.toNat) else s.ctr.lineAddr
        adjActive := s.tickAdjusting && !s.tickRestart
        adjCtr := if s.tickAdjusting && !s.tickRestart then s.tickAdjCount + 1 else s.tickAdjCount
        lineEnable := s.tickLineEnable
        vsyncFf := s.tickVsyncStart || (s.ctr.vsyncFf && !s.tickVsyncEnd)
        vswCtr := if s.tickVsyncStart then 0 else if s.ctr.vsyncFf then s.ctr.vswCtr + 1 else s.ctr.vswCtr
        blinkCtr := if s.tickRestart then s.ctr.blinkCtr + 1 else s.ctr.blinkCtr
        cursorState := if s.tickRestart then s.tickCursorState else s.ctr.cursorState } ∧
      t.cfg = s.cfg ∧ t.regs = s.regs ∧ t.geo = s.geo ∧ t.fatal = s.fatal ∧ t.rdata = s.rdata ∧ t.inbox = s.inbox

/-- R189, R190, R180, R223, R307 (D9, D18, D26): what one line tick leaves in the scheduler. The fall of DE and the cursor
pulse are scheduled only on a displayed line, HSYNC and the next tick always, and their sequence numbers run in this order;
the update-address slot is as `set_de` leaves it; the other slots and `now` stand. -/
def Obligations.LineTickSlots : Prop :=
  ∀ s : State, s.fatal = false →
    ∃ t, exec .evLine s = .next t ∧
      let on := t.ctr.lineEnable
      let cur := on && t.cursorVisible t.ctr.ra.toNat t.ctr.lineAddr
      let first := s.sched.seq
      let hs := first + (if on then 1 else 0) + (if cur then 1 else 0)
      let slotAt (delay seq : Nat) : Option Slot :=
        some { due := s.sched.now + delay, seq := seq, payload := Payload.empty }
      t.slot .deOff = (if on then slotAt s.regs.hdisp.toNat first else s.slot .deOff) ∧
      t.slot .curOn =
        (if cur then slotAt (s.regs.cursorAddr.toNat - t.ctr.lineAddr.toNat) (first + 1) else s.slot .curOn) ∧
      t.slot .hsOn = slotAt s.regs.hsyncPos.toNat hs ∧
      t.slot .line = slotAt (s.regs.htotal.toNat + 1) (hs + 1) ∧
      t.slot .updAdr =
        (if t.sig.de = s.sig.de then s.slot .updAdr
         else if t.sig.de then none
         else if s.ctr.updateReady = false ∧ s.cfg.transparent = true then slotAt s.cfg.updDelay (hs + 2)
         else s.slot .updAdr) ∧
      t.slot .curOff = s.slot .curOff ∧ t.slot .hsOff = s.slot .hsOff ∧ t.slot .lpen = s.slot .lpen ∧
      t.slot .updTrans = s.slot .updTrans ∧ t.sched.now = s.sched.now

/-- R183, R184, R191 (D9, D10): the levels and the records of one line tick. DE takes the value of `line_enable`; the records
are the frame origin of a restart, then VSYNC and then DE, each only on a change. -/
def Obligations.LineTickLevelsAndRecords : Prop :=
  ∀ s : State, s.fatal = false →
    ∃ t, exec .evLine s = .next t ∧
      t.sig = { s.sig with vsync := s.tickVsync, de := s.tickLineEnable } ∧
      t.trace = s.trace ++ (if s.tickRestart then [.originReset] else [])
        ++ (if s.sig.vsync = s.tickVsync then [] else [.vsync s.tickVsync])
        ++ (if s.sig.de = s.tickLineEnable then [] else [.de s.tickLineEnable])

/-- R185, R197, R95, conflict C3 (D14): the VSYNC compare value and width are read from CR3 bits 7:4 where the variant has the
field, and are 0 and 16 elsewhere; a counter that starts at 0 and is advanced before it is compared meets the compare value
after exactly `vsw` ticks, 1 to 16. -/
def Obligations.VsyncCompareIsMetAfterVswTicks : Prop :=
  ∀ s : State,
    s.vswCmp = (if s.cfg.vswField then BitVec.ofNat 4 (s.regs.syncWidth.toNat / 16) else 0) ∧
    s.vsw = (if s.cfg.vswField = true ∧ s.regs.syncWidth.toNat / 16 ≠ 0 then s.regs.syncWidth.toNat / 16 else 16) ∧
    1 ≤ s.vsw ∧ s.vsw ≤ 16 ∧ BitVec.ofNat 4 s.vsw = s.vswCmp ∧
    ∀ n : Nat, 0 < n → n < s.vsw → BitVec.ofNat 4 n ≠ s.vswCmp

/-! ### The sub-timers -/

/-- R192, R223, R274 (D26): `EV.DE_OFF` lowers DE and leaves `line_enable`; when DE falls with an update pending the update-address timer
starts. -/
def Obligations.DeOffLowersDe : Prop :=
  ∀ (s : State) (p : Payload), s.fatal = false →
    decode (.event 1 p) = .ok .evDeOff ∧
    (s.sig.de = false → exec .evDeOff s = .next s) ∧
    (s.sig.de = true →
      exec .evDeOff s = .next { s with
        sig := { s.sig with de := false }
        trace := s.trace ++ [.de false]
        sched := if s.ctr.updateReady = false ∧ s.cfg.transparent = true then
            (s.schedule .updAdr s.cfg.updDelay).sched
          else s.sched })

/-- R193: `EV.HS_ON` clears the width counter, raises HSYNC, and schedules its fall after the width sampled now, the low
nibble of CR3 or 16 for 0; HSYNC that is still high emits nothing and its fall is pushed out. -/
def Obligations.HsOnRaisesHsyncForItsWidth : Prop :=
  ∀ (s : State) (p : Payload), s.fatal = false →
    let width := if s.regs.syncWidth.toNat % 16 = 0 then 16 else s.regs.syncWidth.toNat % 16
    decode (.event 4 p) = .ok .evHsOn ∧
    exec .evHsOn s = .next (({ s with
      ctr := { s.ctr with hswCtr := 0 }
      sig := { s.sig with hsync := true }
      trace := s.trace ++ (if s.sig.hsync then [] else [.hsync true]) } : State).schedule .hsOff width)

/-- R194 (D31): `EV.HS_OFF` lowers HSYNC; the width counter keeps the width of the finished pulse. -/
def Obligations.HsOffLowersHsync : Prop :=
  ∀ s : State, s.fatal = false →
    exec .evHsOff s = .next { s with
      sig := { s.sig with hsync := false }
      trace := s.trace ++ (if s.sig.hsync then [.hsync false] else []) }

/-- R195, R196: `EV.CUR_ON` raises CURSOR and schedules its fall one character clock later; `EV.CUR_OFF` lowers it. -/
def Obligations.CursorPulseIsOneClockWide : Prop :=
  ∀ (s : State) (p : Payload), s.fatal = false →
    decode (.event 2 p) = .ok .evCurOn ∧ decode (.event 3 p) = .ok .evCurOff ∧
    exec .evCurOn s = .next (({ s with
      sig := { s.sig with cursor := true }
      trace := s.trace ++ (if s.sig.cursor then [] else [.cursor true]) } : State).schedule .curOff 1) ∧
    exec .evCurOff s = .next { s with
      sig := { s.sig with cursor := false }
      trace := s.trace ++ (if s.sig.cursor then [.cursor false] else []) }

/-- R271, R59 (D25, D34): `EV.LPEN` captures the display address of this instant and sets `lpen_latched`. -/
def Obligations.LightPenEventLatchesTheAddress : Prop :=
  ∀ s : State, s.fatal = false →
    exec .evLpen s = .next { s with
      regs := { s.regs with lpenAddr := BitVec.ofNat 14 (s.ctr.lineAddr.toNat + s.ctr.cc.toNat) }
      ctr := { s.ctr with lpenLatched := true } }

/-- R275, R276, R273 (D26): `EV.UPD_ADR` hands the address and the strobe bit to the transfer at this instant; the transfer
emits them, and completes a request in blanking mode: the address advances and `update_ready` is set. -/
def Obligations.UpdateOneShots : Prop :=
  ∀ (s : State) (a : Addr) (b : Bool), s.fatal = false →
    (s.cfg.updHandler = true →
      exec .evUpdAdr s = .next (s.scheduleWith .updTrans 0
        { addr := s.regs.updateAddr, strobe := s.regs.mode.getLsbD 6 })) ∧
    exec (.evUpdTrans a b) s = .next
      (if s.ctr.updateReady = false ∧ s.regs.mode &&& 0x88 = 0x08 then
        { s with
          trace := s.trace ++ [.update a b]
          regs := { s.regs with updateAddr := BitVec.ofNat 14 (s.regs.updateAddr.toNat + 1) }
          ctr := { s.ctr with updateReady := true } }
      else { s with trace := s.trace ++ [.update a b] })

/-! ### Cursor -/

/-- R225 (D18), E3: the rows and addresses on which the cursor shows. -/
def Obligations.CursorVisibleRows : Prop :=
  ∀ (s : State) (r : Nat) (la : Addr),
    let st := s.regs.curStart.toNat % 32
    let en := s.regs.curEnd.toNat
    (s.cursorVisible r la = true →
      s.ctr.cursorState = true ∧ la.toNat ≤ s.regs.cursorAddr.toNat ∧
      s.regs.cursorAddr.toNat - la.toNat < s.regs.hdisp.toNat ∧ st < s.ch) ∧
    (s.ctr.cursorState = true → la.toNat ≤ s.regs.cursorAddr.toNat →
      s.regs.cursorAddr.toNat < la.toNat + s.regs.hdisp.toNat → st < s.ch →
      (st ≤ en → en < s.ch → (s.cursorVisible r la = true ↔ st ≤ r ∧ r ≤ en)) ∧
      (st ≤ en → s.ch ≤ en → s.cursorVisible r la = true) ∧
      (en < st → (s.cursorVisible r la = true ↔ s.cfg.cursorWrap = true ∧ (r ≤ en ∨ st ≤ r))))

/-- R226, R97 (D18, D19): the blink mode is CR10 bits 6:5. One frame restart advances the blink counter and leaves
`cursor_state` on in mode 0, off in mode 1, toggled each 16 frames in mode 2 and each 32 in mode 3; it changes nothing
else. -/
def Obligations.BlinkTogglesEachSixteenOrThirtyTwoFrames : Prop :=
  ∀ s : State,
    let blink := s.regs.curStart.toNat / 32
    let frames := s.ctr.blinkCtr.toNat + 1
    let cursor :=
      if blink = 0 then true
      else if blink = 1 then false
      else if frames % (if blink = 2 then 16 else 32) = 0 then !s.ctr.cursorState
      else s.ctr.cursorState
    s.blinkMode = BitVec.ofNat 2 blink ∧ s.tickCursorState = cursor ∧
    s.updateCursorState = { s with ctr := { s.ctr with blinkCtr := BitVec.ofNat 8 frames, cursorState := cursor } }

/-! ### Pins -/

/-- R182 (D10, D31): `CLK` counts first and then fires what has become due; when nothing has, the counters are all it
changes. -/
def Obligations.ClkCountsThenFires : Prop :=
  ∀ s : State, s.fatal = false →
    let u : State := { s with
      sched := { s.sched with now := s.sched.now + 1 }
      ctr := { s.ctr with
        cc := BitVec.ofNat 8 (s.ctr.cc.toNat + 1)
        hswCtr := if (s.slot .hsOff).isSome then BitVec.ofNat 5 (s.ctr.hswCtr.toNat + 1) else s.ctr.hswCtr } }
    exec .clk s = .next u.runDue ∧ (u.quiet = true → exec .clk s = .next u)

/-- R321, R60 (D28): `RESET` from any running state. Registers, counters, flags, the signals and the geometry cache take
their reset values, each spelled out; a record for each signal that was high; `T[LINE]` alone is pending, one clock ahead;
`now`, the configuration and the earlier records stay. -/
def Obligations.ResetGivesThePowerOnBanks : Prop :=
  ∀ s : State, s.fatal = false →
    let regs : RegisterBank :=
      { htotal := 0
        hdisp := 0
        hsyncPos := 0
        syncWidth := 0
        vtotal := 0
        vtotalAdj := 0
        vdisp := 0
        vsyncPos := 0
        mode := 0
        maxRas := 0
        curStart := 0
        curEnd := 0
        dispStart := 0
        cursorAddr := 0
        lpenAddr := 0
        updateAddr := 0
        al := 0 }
    let ctr : Counters :=
      { cc := 0
        ra := 0
        lc := 0
        adjCtr := 0
        adjActive := false
        vswCtr := 0
        hswCtr := 0
        vsyncFf := false
        lineEnable := false
        blinkCtr := 0
        cursorState := false
        lineAddr := 0
        cda := 0
        lpenLatched := false
        updateReady := true }
    let nums : GeomNums :=
      { hTotalPx := 0, vTotalPx := 0, maxX := 0, maxY := 0, hsOn := 0, hsOff := 0, vsOn := 0, vsOff := 0 }
    let line : Slot := { due := s.sched.now + 1, seq := s.sched.seq, payload := Payload.empty }
    exec .reset s = .next { s with
      regs := regs
      ctr := ctr
      sig := { de := false, hsync := false, vsync := false, cursor := false }
      geo := { nums := nums, valid := false }
      sched :=
        { now := s.sched.now
          seq := s.sched.seq + 1
          slots :=
            { line := some line, deOff := none, curOn := none, curOff := none, hsOn := none, hsOff := none, lpen := none
              updAdr := none, updTrans := none } }
      trace := s.trace ++ (if s.sig.de then [.de false] else []) ++ (if s.sig.hsync then [.hsync false] else [])
        ++ (if s.sig.vsync then [.vsync false] else []) ++ (if s.sig.cursor then [.cursor false] else []) }

/-- R270 (D25): a strobe schedules the latch one clock ahead and changes nothing else; a second strobe at the same instant
replaces it, still one latch, with a later sequence number. -/
def Obligations.LightPenStrobeOverwrites : Prop :=
  ∀ s : State, s.Ready →
    exec .lpstb s = .next (s.schedule .lpen 1) ∧
    ∃ t, exec .lpstb (s.schedule .lpen 1) = .next t ∧
      t.slot .lpen = some { due := s.sched.now + 1, seq := s.sched.seq + 1, payload := Payload.empty } ∧
      ∀ u, u ≠ Tag.lpen → t.slot u = s.slot u

/-! ### The bridge -/

/-- R260, R100 (D23, D24): `SCAN y` emits one `ROW` record with these fields and then advances `cda` on the bottom raster row;
nothing else changes. On an ill-formed configuration with character height 0 the quotient and the remainder by it are the
model's choice (log 8). -/
def Obligations.ScanEmitsOneRow : Prop :=
  ∀ (s : State) (y : Nat), s.Ready →
    ∃ r : RowRecord,
      exec (.scan y) s = .next { s with
        trace := s.trace ++ [.row r]
        ctr := { s.ctr with cda :=
          if y % s.ch + 1 = s.ch then BitVec.ofNat 14 (s.ctr.cda.toNat + s.regs.hdisp.toNat) else s.ctr.cda } } ∧
      r.y = y ∧ r.ra = y % s.ch ∧ r.xCount = s.regs.hdisp.toNat ∧
      (s.regs.mode.getLsbD 2 = false → r.ma.toNat = s.ctr.cda.toNat) ∧
      (s.regs.mode.getLsbD 2 = true →
        r.ma.toNat = (s.regs.dispStart.toNat + y / s.ch % 256 * 256) % 65536) ∧
      (s.cursorVisible (y % s.ch) s.ctr.cda = true →
        r.cursorX = (s.regs.cursorAddr.toNat : Int) - (s.ctr.cda.toNat : Int) ∧
        0 ≤ r.cursorX ∧ r.cursorX < (s.regs.hdisp.toNat : Int)) ∧
      (s.cursorVisible (y % s.ch) s.ctr.cda = false → r.cursorX = -1) ∧
      (r.de = true ↔ (y : Int) ≤ s.geo.nums.maxY) ∧
      r.hbp = max (s.geo.nums.hTotalPx - s.geo.nums.hsOff) 0 ∧
      r.vbp = max (s.geo.nums.vTotalPx - s.geo.nums.vsOff) 0

/-- R261, R247 (D35, D36): with valid geometry `FRAME y0, y1` emits one `ROW` record for each scanline of the clip region in
increasing order, the first of a region that begins at 0 at the display start, moves only `cda`, and one more scanline is one
more `SCAN`; a region of one scanline is that `SCAN`, from the reloaded `cda` when it is scanline 0. With invalid geometry
`FRAME` draws nothing and changes nothing; so does a region with `y1 < y0`, which R261 excludes. The model's choices: that
region (log 10), and the remainder by a character height of 0 (log 8). -/
def Obligations.FrameEmitsItsRowsInOrder : Prop :=
  ∀ (s : State) (y0 y1 : Nat), s.Ready →
    (s.geo.valid = false → exec (.frame y0 y1) s = .next s) ∧
    (y1 < y0 → exec (.frame y0 y1) s = .next s) ∧
    (s.geo.valid = true →
      exec (.frame y0 y0) s = exec (.scan y0) (if y0 = 0 then s.withCda s.regs.dispStart else s)) ∧
    (s.geo.valid = true → y0 ≤ y1 →
      ∃ (t : State) (rows : List Output), exec (.frame y0 y1) s = .next t ∧
        t = { s with trace := s.trace ++ rows, ctr := { s.ctr with cda := t.ctr.cda } } ∧
        rows.length = y1 - y0 + 1 ∧
        (∀ k, k < rows.length → ∃ r : RowRecord, rows[k]? = some (.row r) ∧ r.y = y0 + k ∧ r.ra = (y0 + k) % s.ch) ∧
        (y0 = 0 → s.regs.mode.getLsbD 2 = false →
          ∃ r : RowRecord, rows[0]? = some (.row r) ∧ r.ma.toNat = s.regs.dispStart.toNat) ∧
        exec (.frame y0 (y1 + 1)) s = exec (.scan (y1 + 1)) t)

/-- R246 (D22), conflict C2: `RESTORE` sends the `GEOM` record again if the derived geometry is valid and rewrites the cache;
neither `T[LINE]` nor any counter moves and no `ORIGIN_RESET` is emitted. The values and the record are the formulas of
`RecomputeRestartsTheLineOnlyOnAChange`, whose width, height, visible rectangle and refresh are repeated here. -/
def Obligations.RestoreResendsTheGeometry : Prop :=
  ∀ s : State, s.Ready →
    let g := s.deriveGeom
    let lines : Int := (s.regs.vtotal.toNat + 1) * (s.ch : Int) + s.regs.vtotalAdj.toNat
    let record : GeomRecord :=
      { width := (s.regs.htotal.toNat + 1) * (s.cfg.hpix : Int)
        height := lines
        minX := 0
        maxX := s.regs.hdisp.toNat * (s.cfg.hpix : Int) - 1
        minY := 0
        maxY := s.regs.vdisp.toNat * (s.ch : Int) - 1
        refresh := (s.regs.htotal.toNat + 1) * lines }
    exec .restore s = .next { s with
      geo := { nums := g, valid := g.isValid }
      trace := s.trace ++ (if g.isValid then [.geom record] else []) }

/-! ### The whole machine -/

/-- R61 and the promises named in `Inv`: every step from every state keeps the invariant. -/
def Obligations.EveryStepKeepsTheInvariant : Prop :=
  ∀ s t : State, Inv s → step s = .next t → Inv t

/-- R61, R320: the invariant holds at power-on of every configuration, and so at the model's reset state. -/
def Obligations.PowerOnMeetsTheInvariant : Prop :=
  (∀ c : Config, Inv (State.powerOn c)) ∧ Inv State.reset

/-- R5, R56, R182, R321 (D9, D10; log 1, log 3): `now` counts the `CLK` steps and nothing else moves it; `seq` never falls;
no operation changes the configuration or takes anything from the environment's list. -/
def Obligations.OnlyClkAdvancesTime : Prop :=
  ∀ (i : Instr) (s t : State), exec i s = .next t →
    t.sched.now = (if i = .clk ∧ s.fatal = false then s.sched.now + 1 else s.sched.now) ∧
    s.sched.seq ≤ t.sched.seq ∧ t.cfg = s.cfg ∧ t.inbox = s.inbox

/-- R182, R181, R35, R36, R51 (D9, D10): a clock writes no programmable register but the light-pen address and the update
address, and the latch, the geometry cache, the bridge's address and the last read byte stand. -/
def Obligations.ClockKeepsTheProgrammedRegisters : Prop :=
  ∀ s : State, ∃ t, exec .clk s = .next t ∧
    t.regs = { s.regs with lpenAddr := t.regs.lpenAddr, updateAddr := t.regs.updateAddr } ∧
    t.geo = s.geo ∧ t.ctr.cda = s.ctr.cda ∧ t.rdata = s.rdata ∧
    (t.regs.lpenAddr = s.regs.lpenAddr ∨ t.ctr.lpenLatched = true) ∧
    (t.regs.updateAddr = s.regs.updateAddr ∨ t.ctr.updateReady = true)

/-- R58, R54, R321 (D1, D28): records are only appended, and a consumer that tracks the four levels from the records has the
true levels after every operation and never sees a record that repeats a level. -/
def Obligations.RecordsTrackTheLevels : Prop :=
  ∀ (i : Instr) (s t : State), exec i s = .next t →
    (∃ l, t.trace = s.trace ++ l ∧ trackLevels s.sig l = some t.sig)

/-- R325, R334, R77 (derived in the spec), R35: between two clocks the engine stands still. A bus transaction, strobe or host
call other than `RESET` moves no signal, no counter but `cc` (to 0), `cda`, `lpen_latched` and `update_ready`, none of the
one-shots of the line (DE_OFF, CUR_ON, CUR_OFF, HS_ON, HS_OFF), and never the light-pen address. -/
def Obligations.EngineStandsStillBetweenClocks : Prop :=
  ∀ (i : Instr) (s t : State), s.Ready → i.isEvent = false → i ≠ .clk → i ≠ .reset → exec i s = .next t →
    t.sig = s.sig ∧
    t.ctr = { s.ctr with
      cc := t.ctr.cc, cda := t.ctr.cda, lpenLatched := t.ctr.lpenLatched, updateReady := t.ctr.updateReady } ∧
    (t.ctr.cc = s.ctr.cc ∨ t.ctr.cc = 0) ∧
    t.regs.lpenAddr = s.regs.lpenAddr ∧
    ∀ u : Tag, u ≠ .line → u ≠ .lpen → u ≠ .updAdr → u ≠ .updTrans → t.slot u = s.slot u

/-- R334, R262 (derived in the spec): the engine never reads the bridge's address `cda`: a clock from two states that differ
only in it gives two states that differ only in it. -/
def Obligations.EngineIgnoresTheBridgeAddress : Prop :=
  ∀ (s : State) (a : Addr), ∃ t, exec .clk s = .next t ∧ exec .clk (s.withCda a) = .next (t.withCda a)

/-- R334, R262 (derived in the spec): the bridge reads the configuration, the registers, the geometry cache, `cda` and
`cursor_state` only: two states that agree on these, whatever the engine's counters, signals and slots are, give the same
rows and the same `cda`. -/
def Obligations.BridgeIgnoresTheEngine : Prop :=
  ∀ (s s' : State) (y0 y1 : Nat), s.Ready → s'.Ready → s.cfg = s'.cfg → s.regs = s'.regs → s.geo = s'.geo →
    s.ctr.cda = s'.ctr.cda → s.ctr.cursorState = s'.ctr.cursorState →
    ∃ t t' rows, exec (.frame y0 y1) s = .next t ∧ exec (.frame y0 y1) s' = .next t' ∧
      t.trace = s.trace ++ rows ∧ t'.trace = s'.trace ++ rows ∧ t.ctr.cda = t'.ctr.cda

/-! ### Power-on and construction -/

/-- R320, R60 (all values the spec's own choice, D28; the configuration of `State.reset` the model's, log 1; the sequence
number of the power-on slot the model's, log 6, and not stated): the power-on state, field by field. -/
def Obligations.PowerOnValues : Prop :=
  ∀ c : Config,
    let s := State.powerOn c
    s.cfg = c ∧
    s.regs =
        { htotal := 0
          hdisp := 0
          hsyncPos := 0
          syncWidth := 0
          vtotal := 0
          vtotalAdj := 0
          vdisp := 0
          vsyncPos := 0
          mode := 0
          maxRas := 0
          curStart := 0
          curEnd := 0
          dispStart := 0
          cursorAddr := 0
          lpenAddr := 0
          updateAddr := 0
          al := 0 } ∧
    s.ctr =
        { cc := 0
          ra := 0
          lc := 0
          adjCtr := 0
          adjActive := false
          vswCtr := 0
          hswCtr := 0
          vsyncFf := false
          lineEnable := false
          blinkCtr := 0
          cursorState := false
          lineAddr := 0
          cda := 0
          lpenLatched := false
          updateReady := true } ∧
    s.sig = { de := false, hsync := false, vsync := false, cursor := false } ∧
    s.geo.nums =
      { hTotalPx := 0, vTotalPx := 0, maxX := 0, maxY := 0, hsOn := 0, hsOff := 0, vsOn := 0, vsOff := 0 } ∧
    s.geo.valid = false ∧ s.sched.now = 0 ∧ s.sched.seq = 0 ∧ s.fatal = false ∧ s.trace = [] ∧
    (s.slot .line).map (·.due) = some 1 ∧ (∀ t : Tag, t ≠ .line → s.slot t = none) ∧
    State.reset = State.powerOn Config.cfgB

/-- R6 (D17): construction refuses an ill-formed configuration and gives the power-on state of a well-formed one. -/
def Obligations.ConstructionRefusesIllFormed : Prop :=
  ∀ c : Config,
    (1 ≤ c.adjNonint ∧ 1 ≤ c.adjInt ∧ 1 ≤ c.hpix ∧ 1 ≤ c.updDelay ∧ (c.transparent = true → c.updHandler = true) →
      State.construct c = .next (State.powerOn c)) ∧
    (¬ (1 ≤ c.adjNonint ∧ 1 ≤ c.adjInt ∧ 1 ≤ c.hpix ∧ 1 ≤ c.updDelay ∧
        (c.transparent = true → c.updHandler = true)) →
      State.construct c = .refused .illFormedConfig)
end

