-- ==== Sys2Proof/Laws/Decode.lean ====
section
/-! SUPPORT. The fields of the decode key and of the transaction word. -/

namespace Sys2Proof

/-- A bit of the key, field by field (R91). -/
theorem getLsbD_busKey (rs rw : Bool) (al : Index) (d : Byte) (i : Nat) :
    (busKey rs rw al d).getLsbD i =
      if i < 8 then d.getLsbD i
      else if i - 8 < 6 then al.getLsbD (i - 8)
      else if i - 8 - 6 < 1 then (BitVec.ofBool rw).getLsbD (i - 8 - 6)
      else (BitVec.ofBool rs).getLsbD (i - 8 - 6 - 1) := by
  show (BitVec.ofBool rs ++ BitVec.ofBool rw ++ al ++ d : BitVec (1 + 1 + 6 + 8)).getLsbD i = _
  simp only [BitVec.getLsbD_append]

@[simp] theorem keyRs_busKey (rs rw : Bool) (al : Index) (d : Byte) : keyRs (busKey rs rw al d) = rs := by
  rw [keyRs, getLsbD_busKey]
  cases rs <;> rfl

@[simp] theorem keyRw_busKey (rs rw : Bool) (al : Index) (d : Byte) : keyRw (busKey rs rw al d) = rw := by
  rw [keyRw, getLsbD_busKey]
  cases rw <;> rfl

@[simp] theorem keyAl_busKey (rs rw : Bool) (al : Index) (d : Byte) : keyAl (busKey rs rw al d) = al := by
  apply BitVec.eq_of_getLsbD_eq
  intro i hi
  rw [keyAl, BitVec.getLsbD_extractLsb', getLsbD_busKey, if_neg (by omega), if_pos (by omega)]
  simp [hi]

@[simp] theorem keyD_busKey (rs rw : Bool) (al : Index) (d : Byte) : keyD (busKey rs rw al d) = d := by
  apply BitVec.eq_of_getLsbD_eq
  intro i hi
  rw [keyD, BitVec.getLsbD_extractLsb', getLsbD_busKey, if_pos (by omega)]
  simp [hi]

/-- A BUS key always decodes (R9). -/
theorem decode_bus (k : BitVec 16) : decode (.bus k) = .ok (decodeBus k) := rfl

/-- A data-port write decodes by its index alone (R107). -/
theorem decodeBus_write (al : Index) (d : Byte) : decodeBus (busKey true false al d) = decodeWrite al d := by
  simp [decodeBus]

/-- A data-port read decodes by its index alone (R107). -/
theorem decodeBus_read (al : Index) (d : Byte) : decodeBus (busKey true true al d) = decodeRead al := by
  simp [decodeBus]

/-- Masking a key with `0xFF00` clears its data bits. -/
theorem busKey_and_high (rs rw : Bool) (al : Index) (d : Byte) :
    busKey rs rw al d &&& 0xFF00 = busKey rs rw al 0 := by
  apply BitVec.eq_of_getLsbD_eq
  intro i hi
  rw [BitVec.getLsbD_and, getLsbD_busKey, getLsbD_busKey]
  have h : ∀ j < 16, (0xFF00 : BitVec 16).getLsbD j = decide (8 ≤ j) := by decide
  rw [h i hi]
  by_cases h8 : i < 8
  · simp [h8]
  · simp [h8, Nat.le_of_not_lt h8]

/-- Masking a key with `0xC000` leaves the port and the direction. -/
theorem busKey_and_port (rs rw : Bool) (al : Index) (d : Byte) :
    busKey rs rw al d &&& 0xC000 = busKey rs rw 0 0 := by
  apply BitVec.eq_of_getLsbD_eq
  intro i hi
  rw [BitVec.getLsbD_and, getLsbD_busKey, getLsbD_busKey]
  have h : ∀ j < 16, (0xC000 : BitVec 16).getLsbD j = decide (14 ≤ j) := by decide
  rw [h i hi]
  by_cases h8 : i < 8
  · simp [h8, show ¬ 14 ≤ i by omega]
  · by_cases h14 : i < 14
    · simp [h8, show i - 8 < 6 by omega, show ¬ 14 ≤ i by omega]
    · simp [h8, show ¬ i - 8 < 6 by omega, show 14 ≤ i by omega]

end Sys2Proof
end

