-- ==== Sys2Proof/Laws/State.lean ====
section
/-! SUPPORT. One lemma per field per named update of the state, so that no later proof unfolds a record update. -/

namespace Sys2Proof.Machine

variable (s : State)

/-! ### A record that is written out -/

@[simp] theorem slot_def (t : Tag) : s.slot t = s.sched.slots.get t := rfl

/-! ### emit -/

@[simp] theorem emit_cfg (o : Output) : (s.emit o).cfg = s.cfg := rfl
@[simp] theorem emit_regs (o : Output) : (s.emit o).regs = s.regs := rfl
@[simp] theorem emit_ctr (o : Output) : (s.emit o).ctr = s.ctr := rfl
@[simp] theorem emit_sig (o : Output) : (s.emit o).sig = s.sig := rfl
@[simp] theorem emit_geo (o : Output) : (s.emit o).geo = s.geo := rfl
@[simp] theorem emit_sched (o : Output) : (s.emit o).sched = s.sched := rfl
@[simp] theorem emit_fatal (o : Output) : (s.emit o).fatal = s.fatal := rfl
@[simp] theorem emit_trace (o : Output) :
    (s.emit o).trace = s.trace ++ [o] := rfl
@[simp] theorem emit_rdata (o : Output) : (s.emit o).rdata = s.rdata := rfl
@[simp] theorem emit_inbox (o : Output) : (s.emit o).inbox = s.inbox := rfl

/-! ### scheduleWith -/

@[simp] theorem scheduleWith_cfg (t : Tag) (d : Nat) (p : Payload) : (s.scheduleWith t d p).cfg = s.cfg := rfl
@[simp] theorem scheduleWith_regs (t : Tag) (d : Nat) (p : Payload) : (s.scheduleWith t d p).regs = s.regs := rfl
@[simp] theorem scheduleWith_ctr (t : Tag) (d : Nat) (p : Payload) : (s.scheduleWith t d p).ctr = s.ctr := rfl
@[simp] theorem scheduleWith_sig (t : Tag) (d : Nat) (p : Payload) : (s.scheduleWith t d p).sig = s.sig := rfl
@[simp] theorem scheduleWith_geo (t : Tag) (d : Nat) (p : Payload) : (s.scheduleWith t d p).geo = s.geo := rfl
@[simp] theorem scheduleWith_sched (t : Tag) (d : Nat) (p : Payload) :
    (s.scheduleWith t d p).sched = { now := s.sched.now, seq := s.sched.seq + 1, slots := s.sched.slots.set t (some { due := s.sched.now + d, seq := s.sched.seq, payload := p }) } := rfl
@[simp] theorem scheduleWith_fatal (t : Tag) (d : Nat) (p : Payload) : (s.scheduleWith t d p).fatal = s.fatal := rfl
@[simp] theorem scheduleWith_trace (t : Tag) (d : Nat) (p : Payload) : (s.scheduleWith t d p).trace = s.trace := rfl
@[simp] theorem scheduleWith_rdata (t : Tag) (d : Nat) (p : Payload) : (s.scheduleWith t d p).rdata = s.rdata := rfl
@[simp] theorem scheduleWith_inbox (t : Tag) (d : Nat) (p : Payload) : (s.scheduleWith t d p).inbox = s.inbox := rfl

/-! ### schedule -/

@[simp] theorem schedule_cfg (t : Tag) (d : Nat) : (s.schedule t d).cfg = s.cfg := rfl
@[simp] theorem schedule_regs (t : Tag) (d : Nat) : (s.schedule t d).regs = s.regs := rfl
@[simp] theorem schedule_ctr (t : Tag) (d : Nat) : (s.schedule t d).ctr = s.ctr := rfl
@[simp] theorem schedule_sig (t : Tag) (d : Nat) : (s.schedule t d).sig = s.sig := rfl
@[simp] theorem schedule_geo (t : Tag) (d : Nat) : (s.schedule t d).geo = s.geo := rfl
@[simp] theorem schedule_sched (t : Tag) (d : Nat) :
    (s.schedule t d).sched = { now := s.sched.now, seq := s.sched.seq + 1, slots := s.sched.slots.set t (some { due := s.sched.now + d, seq := s.sched.seq, payload := Payload.empty }) } := rfl
@[simp] theorem schedule_fatal (t : Tag) (d : Nat) : (s.schedule t d).fatal = s.fatal := rfl
@[simp] theorem schedule_trace (t : Tag) (d : Nat) : (s.schedule t d).trace = s.trace := rfl
@[simp] theorem schedule_rdata (t : Tag) (d : Nat) : (s.schedule t d).rdata = s.rdata := rfl
@[simp] theorem schedule_inbox (t : Tag) (d : Nat) : (s.schedule t d).inbox = s.inbox := rfl

/-! ### cancel -/

@[simp] theorem cancel_cfg (t : Tag) : (s.cancel t).cfg = s.cfg := rfl
@[simp] theorem cancel_regs (t : Tag) : (s.cancel t).regs = s.regs := rfl
@[simp] theorem cancel_ctr (t : Tag) : (s.cancel t).ctr = s.ctr := rfl
@[simp] theorem cancel_sig (t : Tag) : (s.cancel t).sig = s.sig := rfl
@[simp] theorem cancel_geo (t : Tag) : (s.cancel t).geo = s.geo := rfl
@[simp] theorem cancel_sched (t : Tag) :
    (s.cancel t).sched = { now := s.sched.now, seq := s.sched.seq, slots := s.sched.slots.set t none } := rfl
@[simp] theorem cancel_fatal (t : Tag) : (s.cancel t).fatal = s.fatal := rfl
@[simp] theorem cancel_trace (t : Tag) : (s.cancel t).trace = s.trace := rfl
@[simp] theorem cancel_rdata (t : Tag) : (s.cancel t).rdata = s.rdata := rfl
@[simp] theorem cancel_inbox (t : Tag) : (s.cancel t).inbox = s.inbox := rfl

/-! ### raise -/

@[simp] theorem raise_cfg (f : Fault) : (s.raise f).cfg = s.cfg := by cases f; rfl
@[simp] theorem raise_regs (f : Fault) : (s.raise f).regs = s.regs := by cases f; rfl
@[simp] theorem raise_ctr (f : Fault) : (s.raise f).ctr = s.ctr := by cases f; rfl
@[simp] theorem raise_sig (f : Fault) : (s.raise f).sig = s.sig := by cases f; rfl
@[simp] theorem raise_geo (f : Fault) : (s.raise f).geo = s.geo := by cases f; rfl
@[simp] theorem raise_sched (f : Fault) : (s.raise f).sched = s.sched := by cases f; rfl
@[simp] theorem raise_fatal (f : Fault) :
    (s.raise f).fatal = true := by cases f; rfl
@[simp] theorem raise_trace (f : Fault) : (s.raise f).trace = s.trace := by cases f; rfl
@[simp] theorem raise_rdata (f : Fault) : (s.raise f).rdata = s.rdata := by cases f; rfl
@[simp] theorem raise_inbox (f : Fault) : (s.raise f).inbox = s.inbox := by cases f; rfl

/-! ### incUpdateAddr -/

@[simp] theorem incUpdateAddr_cfg : (s.incUpdateAddr).cfg = s.cfg := rfl
@[simp] theorem incUpdateAddr_regs :
    (s.incUpdateAddr).regs = { s.regs with updateAddr := s.regs.updateAddr + 1 } := rfl
@[simp] theorem incUpdateAddr_ctr : (s.incUpdateAddr).ctr = s.ctr := rfl
@[simp] theorem incUpdateAddr_sig : (s.incUpdateAddr).sig = s.sig := rfl
@[simp] theorem incUpdateAddr_geo : (s.incUpdateAddr).geo = s.geo := rfl
@[simp] theorem incUpdateAddr_sched : (s.incUpdateAddr).sched = s.sched := rfl
@[simp] theorem incUpdateAddr_fatal : (s.incUpdateAddr).fatal = s.fatal := rfl
@[simp] theorem incUpdateAddr_trace : (s.incUpdateAddr).trace = s.trace := rfl
@[simp] theorem incUpdateAddr_rdata : (s.incUpdateAddr).rdata = s.rdata := rfl
@[simp] theorem incUpdateAddr_inbox : (s.incUpdateAddr).inbox = s.inbox := rfl

/-! ### setUpdateReady -/

@[simp] theorem setUpdateReady_cfg (v : Bool) : (s.setUpdateReady v).cfg = s.cfg := rfl
@[simp] theorem setUpdateReady_regs (v : Bool) : (s.setUpdateReady v).regs = s.regs := rfl
@[simp] theorem setUpdateReady_ctr (v : Bool) :
    (s.setUpdateReady v).ctr = { s.ctr with updateReady := v } := rfl
@[simp] theorem setUpdateReady_sig (v : Bool) : (s.setUpdateReady v).sig = s.sig := rfl
@[simp] theorem setUpdateReady_geo (v : Bool) : (s.setUpdateReady v).geo = s.geo := rfl
@[simp] theorem setUpdateReady_sched (v : Bool) : (s.setUpdateReady v).sched = s.sched := rfl
@[simp] theorem setUpdateReady_fatal (v : Bool) : (s.setUpdateReady v).fatal = s.fatal := rfl
@[simp] theorem setUpdateReady_trace (v : Bool) : (s.setUpdateReady v).trace = s.trace := rfl
@[simp] theorem setUpdateReady_rdata (v : Bool) : (s.setUpdateReady v).rdata = s.rdata := rfl
@[simp] theorem setUpdateReady_inbox (v : Bool) : (s.setUpdateReady v).inbox = s.inbox := rfl

/-! ### updRegs -/

@[simp] theorem updRegs_cfg (f : RegisterBank → RegisterBank) : (s.updRegs f).cfg = s.cfg := rfl
@[simp] theorem updRegs_regs (f : RegisterBank → RegisterBank) :
    (s.updRegs f).regs = f s.regs := rfl
@[simp] theorem updRegs_ctr (f : RegisterBank → RegisterBank) : (s.updRegs f).ctr = s.ctr := rfl
@[simp] theorem updRegs_sig (f : RegisterBank → RegisterBank) : (s.updRegs f).sig = s.sig := rfl
@[simp] theorem updRegs_geo (f : RegisterBank → RegisterBank) : (s.updRegs f).geo = s.geo := rfl
@[simp] theorem updRegs_sched (f : RegisterBank → RegisterBank) : (s.updRegs f).sched = s.sched := rfl
@[simp] theorem updRegs_fatal (f : RegisterBank → RegisterBank) : (s.updRegs f).fatal = s.fatal := rfl
@[simp] theorem updRegs_trace (f : RegisterBank → RegisterBank) : (s.updRegs f).trace = s.trace := rfl
@[simp] theorem updRegs_rdata (f : RegisterBank → RegisterBank) : (s.updRegs f).rdata = s.rdata := rfl
@[simp] theorem updRegs_inbox (f : RegisterBank → RegisterBank) : (s.updRegs f).inbox = s.inbox := rfl

/-! ### storeGeom -/

@[simp] theorem storeGeom_cfg (g : GeomNums) : (s.storeGeom g).cfg = s.cfg := rfl
@[simp] theorem storeGeom_regs (g : GeomNums) : (s.storeGeom g).regs = s.regs := rfl
@[simp] theorem storeGeom_ctr (g : GeomNums) : (s.storeGeom g).ctr = s.ctr := rfl
@[simp] theorem storeGeom_sig (g : GeomNums) : (s.storeGeom g).sig = s.sig := rfl
@[simp] theorem storeGeom_geo (g : GeomNums) :
    (s.storeGeom g).geo = { nums := g, valid := g.isValid } := rfl
@[simp] theorem storeGeom_sched (g : GeomNums) : (s.storeGeom g).sched = s.sched := rfl
@[simp] theorem storeGeom_fatal (g : GeomNums) : (s.storeGeom g).fatal = s.fatal := rfl
@[simp] theorem storeGeom_trace (g : GeomNums) : (s.storeGeom g).trace = s.trace := rfl
@[simp] theorem storeGeom_rdata (g : GeomNums) : (s.storeGeom g).rdata = s.rdata := rfl
@[simp] theorem storeGeom_inbox (g : GeomNums) : (s.storeGeom g).inbox = s.inbox := rfl

/-! ### restartLine -/

@[simp] theorem restartLine_cfg : (s.restartLine).cfg = s.cfg := rfl
@[simp] theorem restartLine_regs : (s.restartLine).regs = s.regs := rfl
@[simp] theorem restartLine_ctr :
    (s.restartLine).ctr = { s.ctr with cc := 0 } := rfl
@[simp] theorem restartLine_sig : (s.restartLine).sig = s.sig := rfl
@[simp] theorem restartLine_geo : (s.restartLine).geo = s.geo := rfl
@[simp] theorem restartLine_sched :
    (s.restartLine).sched = (s.schedule .line s.linePeriod).sched := rfl
@[simp] theorem restartLine_fatal : (s.restartLine).fatal = s.fatal := rfl
@[simp] theorem restartLine_trace : (s.restartLine).trace = s.trace := rfl
@[simp] theorem restartLine_rdata : (s.restartLine).rdata = s.rdata := rfl
@[simp] theorem restartLine_inbox : (s.restartLine).inbox = s.inbox := rfl

/-! ### clearLpenLatched -/

@[simp] theorem clearLpenLatched_cfg : (s.clearLpenLatched).cfg = s.cfg := rfl
@[simp] theorem clearLpenLatched_regs : (s.clearLpenLatched).regs = s.regs := rfl
@[simp] theorem clearLpenLatched_ctr :
    (s.clearLpenLatched).ctr = { s.ctr with lpenLatched := false } := rfl
@[simp] theorem clearLpenLatched_sig : (s.clearLpenLatched).sig = s.sig := rfl
@[simp] theorem clearLpenLatched_geo : (s.clearLpenLatched).geo = s.geo := rfl
@[simp] theorem clearLpenLatched_sched : (s.clearLpenLatched).sched = s.sched := rfl
@[simp] theorem clearLpenLatched_fatal : (s.clearLpenLatched).fatal = s.fatal := rfl
@[simp] theorem clearLpenLatched_trace : (s.clearLpenLatched).trace = s.trace := rfl
@[simp] theorem clearLpenLatched_rdata : (s.clearLpenLatched).rdata = s.rdata := rfl
@[simp] theorem clearLpenLatched_inbox : (s.clearLpenLatched).inbox = s.inbox := rfl

/-! ### endOfFrame -/

@[simp] theorem endOfFrame_cfg : (s.endOfFrame).cfg = s.cfg := by unfold State.endOfFrame; split <;> rfl
@[simp] theorem endOfFrame_regs : (s.endOfFrame).regs = s.regs := by unfold State.endOfFrame; split <;> rfl
@[simp] theorem endOfFrame_ctr :
    (s.endOfFrame).ctr = if s.ctr.lc = s.regs.vtotal then { s.ctr with adjCtr := 0, adjActive := true } else s.ctr := by unfold State.endOfFrame; split <;> rfl
@[simp] theorem endOfFrame_sig : (s.endOfFrame).sig = s.sig := by unfold State.endOfFrame; split <;> rfl
@[simp] theorem endOfFrame_geo : (s.endOfFrame).geo = s.geo := by unfold State.endOfFrame; split <;> rfl
@[simp] theorem endOfFrame_sched : (s.endOfFrame).sched = s.sched := by unfold State.endOfFrame; split <;> rfl
@[simp] theorem endOfFrame_fatal : (s.endOfFrame).fatal = s.fatal := by unfold State.endOfFrame; split <;> rfl
@[simp] theorem endOfFrame_trace : (s.endOfFrame).trace = s.trace := by unfold State.endOfFrame; split <;> rfl
@[simp] theorem endOfFrame_rdata : (s.endOfFrame).rdata = s.rdata := by unfold State.endOfFrame; split <;> rfl
@[simp] theorem endOfFrame_inbox : (s.endOfFrame).inbox = s.inbox := by unfold State.endOfFrame; split <;> rfl

/-! ### nextRow -/

@[simp] theorem nextRow_cfg : (s.nextRow).cfg = s.cfg := rfl
@[simp] theorem nextRow_regs : (s.nextRow).regs = s.regs := rfl
@[simp] theorem nextRow_ctr :
    (s.nextRow).ctr = { s.ctr with ra := 0, lc := s.ctr.lc + 1, lineAddr := s.ctr.lineAddr + s.regs.hdisp.setWidth 14 } := rfl
@[simp] theorem nextRow_sig : (s.nextRow).sig = s.sig := rfl
@[simp] theorem nextRow_geo : (s.nextRow).geo = s.geo := rfl
@[simp] theorem nextRow_sched : (s.nextRow).sched = s.sched := rfl
@[simp] theorem nextRow_fatal : (s.nextRow).fatal = s.fatal := rfl
@[simp] theorem nextRow_trace : (s.nextRow).trace = s.trace := rfl
@[simp] theorem nextRow_rdata : (s.nextRow).rdata = s.rdata := rfl
@[simp] theorem nextRow_inbox : (s.nextRow).inbox = s.inbox := rfl

/-! ### frameOrigin -/

@[simp] theorem frameOrigin_cfg : (s.frameOrigin).cfg = s.cfg := rfl
@[simp] theorem frameOrigin_regs : (s.frameOrigin).regs = s.regs := rfl
@[simp] theorem frameOrigin_ctr :
    (s.frameOrigin).ctr = { s.ctr with adjActive := false, ra := 0, lc := 0, lineAddr := s.regs.dispStart, lineEnable := true } := rfl
@[simp] theorem frameOrigin_sig : (s.frameOrigin).sig = s.sig := rfl
@[simp] theorem frameOrigin_geo : (s.frameOrigin).geo = s.geo := rfl
@[simp] theorem frameOrigin_sched : (s.frameOrigin).sched = s.sched := rfl
@[simp] theorem frameOrigin_fatal : (s.frameOrigin).fatal = s.fatal := rfl
@[simp] theorem frameOrigin_trace : (s.frameOrigin).trace = s.trace := rfl
@[simp] theorem frameOrigin_rdata : (s.frameOrigin).rdata = s.rdata := rfl
@[simp] theorem frameOrigin_inbox : (s.frameOrigin).inbox = s.inbox := rfl

/-! ### tick -/

@[simp] theorem tick_cfg : (s.tick).cfg = s.cfg := rfl
@[simp] theorem tick_regs : (s.tick).regs = s.regs := rfl
@[simp] theorem tick_ctr :
    (s.tick).ctr = { s.ctr with cc := s.ctr.cc + 1, hswCtr := if (s.slot .hsOff).isSome then s.ctr.hswCtr + 1 else s.ctr.hswCtr } := rfl
@[simp] theorem tick_sig : (s.tick).sig = s.sig := rfl
@[simp] theorem tick_geo : (s.tick).geo = s.geo := rfl
@[simp] theorem tick_sched :
    (s.tick).sched = { now := s.sched.now + 1, seq := s.sched.seq, slots := s.sched.slots } := rfl
@[simp] theorem tick_fatal : (s.tick).fatal = s.fatal := rfl
@[simp] theorem tick_trace : (s.tick).trace = s.trace := rfl
@[simp] theorem tick_rdata : (s.tick).rdata = s.rdata := rfl
@[simp] theorem tick_inbox : (s.tick).inbox = s.inbox := rfl

/-! ### resetBanks -/

@[simp] theorem resetBanks_cfg : (s.resetBanks).cfg = s.cfg := rfl
@[simp] theorem resetBanks_regs :
    (s.resetBanks).regs = RegisterBank.reset := rfl
@[simp] theorem resetBanks_ctr :
    (s.resetBanks).ctr = Counters.reset := rfl
@[simp] theorem resetBanks_sig : (s.resetBanks).sig = s.sig := rfl
@[simp] theorem resetBanks_geo : (s.resetBanks).geo = s.geo := rfl
@[simp] theorem resetBanks_sched : (s.resetBanks).sched = s.sched := rfl
@[simp] theorem resetBanks_fatal : (s.resetBanks).fatal = s.fatal := rfl
@[simp] theorem resetBanks_trace : (s.resetBanks).trace = s.trace := rfl
@[simp] theorem resetBanks_rdata : (s.resetBanks).rdata = s.rdata := rfl
@[simp] theorem resetBanks_inbox : (s.resetBanks).inbox = s.inbox := rfl

/-! ### clearSlotsAndGeom -/

@[simp] theorem clearSlotsAndGeom_cfg : (s.clearSlotsAndGeom).cfg = s.cfg := rfl
@[simp] theorem clearSlotsAndGeom_regs : (s.clearSlotsAndGeom).regs = s.regs := rfl
@[simp] theorem clearSlotsAndGeom_ctr : (s.clearSlotsAndGeom).ctr = s.ctr := rfl
@[simp] theorem clearSlotsAndGeom_sig : (s.clearSlotsAndGeom).sig = s.sig := rfl
@[simp] theorem clearSlotsAndGeom_geo :
    (s.clearSlotsAndGeom).geo = Geometry.reset := rfl
@[simp] theorem clearSlotsAndGeom_sched :
    (s.clearSlotsAndGeom).sched = { now := s.sched.now, seq := s.sched.seq, slots := Slots.empty } := rfl
@[simp] theorem clearSlotsAndGeom_fatal : (s.clearSlotsAndGeom).fatal = s.fatal := rfl
@[simp] theorem clearSlotsAndGeom_trace : (s.clearSlotsAndGeom).trace = s.trace := rfl
@[simp] theorem clearSlotsAndGeom_rdata : (s.clearSlotsAndGeom).rdata = s.rdata := rfl
@[simp] theorem clearSlotsAndGeom_inbox : (s.clearSlotsAndGeom).inbox = s.inbox := rfl

/-! ### withCda -/

@[simp] theorem withCda_cfg (a : Addr) : (s.withCda a).cfg = s.cfg := rfl
@[simp] theorem withCda_regs (a : Addr) : (s.withCda a).regs = s.regs := rfl
@[simp] theorem withCda_ctr (a : Addr) :
    (s.withCda a).ctr = { s.ctr with cda := a } := rfl
@[simp] theorem withCda_sig (a : Addr) : (s.withCda a).sig = s.sig := rfl
@[simp] theorem withCda_geo (a : Addr) : (s.withCda a).geo = s.geo := rfl
@[simp] theorem withCda_sched (a : Addr) : (s.withCda a).sched = s.sched := rfl
@[simp] theorem withCda_fatal (a : Addr) : (s.withCda a).fatal = s.fatal := rfl
@[simp] theorem withCda_trace (a : Addr) : (s.withCda a).trace = s.trace := rfl
@[simp] theorem withCda_rdata (a : Addr) : (s.withCda a).rdata = s.rdata := rfl
@[simp] theorem withCda_inbox (a : Addr) : (s.withCda a).inbox = s.inbox := rfl

/-! ### setHsync -/

@[simp] theorem setHsync_cfg (v : Bool) : (s.setHsync v).cfg = s.cfg := by unfold State.setHsync; split <;> rfl
@[simp] theorem setHsync_regs (v : Bool) : (s.setHsync v).regs = s.regs := by unfold State.setHsync; split <;> rfl
@[simp] theorem setHsync_ctr (v : Bool) : (s.setHsync v).ctr = s.ctr := by unfold State.setHsync; split <;> rfl
@[simp] theorem setHsync_geo (v : Bool) : (s.setHsync v).geo = s.geo := by unfold State.setHsync; split <;> rfl
@[simp] theorem setHsync_sched (v : Bool) : (s.setHsync v).sched = s.sched := by unfold State.setHsync; split <;> rfl
@[simp] theorem setHsync_fatal (v : Bool) : (s.setHsync v).fatal = s.fatal := by unfold State.setHsync; split <;> rfl
@[simp] theorem setHsync_rdata (v : Bool) : (s.setHsync v).rdata = s.rdata := by unfold State.setHsync; split <;> rfl
@[simp] theorem setHsync_inbox (v : Bool) : (s.setHsync v).inbox = s.inbox := by unfold State.setHsync; split <;> rfl

/-! ### setVsync -/

@[simp] theorem setVsync_cfg (v : Bool) : (s.setVsync v).cfg = s.cfg := by unfold State.setVsync; split <;> rfl
@[simp] theorem setVsync_regs (v : Bool) : (s.setVsync v).regs = s.regs := by unfold State.setVsync; split <;> rfl
@[simp] theorem setVsync_ctr (v : Bool) : (s.setVsync v).ctr = s.ctr := by unfold State.setVsync; split <;> rfl
@[simp] theorem setVsync_geo (v : Bool) : (s.setVsync v).geo = s.geo := by unfold State.setVsync; split <;> rfl
@[simp] theorem setVsync_sched (v : Bool) : (s.setVsync v).sched = s.sched := by unfold State.setVsync; split <;> rfl
@[simp] theorem setVsync_fatal (v : Bool) : (s.setVsync v).fatal = s.fatal := by unfold State.setVsync; split <;> rfl
@[simp] theorem setVsync_rdata (v : Bool) : (s.setVsync v).rdata = s.rdata := by unfold State.setVsync; split <;> rfl
@[simp] theorem setVsync_inbox (v : Bool) : (s.setVsync v).inbox = s.inbox := by unfold State.setVsync; split <;> rfl

/-! ### setCur -/

@[simp] theorem setCur_cfg (v : Bool) : (s.setCur v).cfg = s.cfg := by unfold State.setCur; split <;> rfl
@[simp] theorem setCur_regs (v : Bool) : (s.setCur v).regs = s.regs := by unfold State.setCur; split <;> rfl
@[simp] theorem setCur_ctr (v : Bool) : (s.setCur v).ctr = s.ctr := by unfold State.setCur; split <;> rfl
@[simp] theorem setCur_geo (v : Bool) : (s.setCur v).geo = s.geo := by unfold State.setCur; split <;> rfl
@[simp] theorem setCur_sched (v : Bool) : (s.setCur v).sched = s.sched := by unfold State.setCur; split <;> rfl
@[simp] theorem setCur_fatal (v : Bool) : (s.setCur v).fatal = s.fatal := by unfold State.setCur; split <;> rfl
@[simp] theorem setCur_rdata (v : Bool) : (s.setCur v).rdata = s.rdata := by unfold State.setCur; split <;> rfl
@[simp] theorem setCur_inbox (v : Bool) : (s.setCur v).inbox = s.inbox := by unfold State.setCur; split <;> rfl

/-! ### updAdrTimer -/

@[simp] theorem updAdrTimer_cfg : (s.updAdrTimer).cfg = s.cfg := by unfold State.updAdrTimer; split <;> rfl
@[simp] theorem updAdrTimer_regs : (s.updAdrTimer).regs = s.regs := by unfold State.updAdrTimer; split <;> rfl
@[simp] theorem updAdrTimer_ctr : (s.updAdrTimer).ctr = s.ctr := by unfold State.updAdrTimer; split <;> rfl
@[simp] theorem updAdrTimer_sig : (s.updAdrTimer).sig = s.sig := by unfold State.updAdrTimer; split <;> rfl
@[simp] theorem updAdrTimer_geo : (s.updAdrTimer).geo = s.geo := by unfold State.updAdrTimer; split <;> rfl
@[simp] theorem updAdrTimer_fatal : (s.updAdrTimer).fatal = s.fatal := by unfold State.updAdrTimer; split <;> rfl
@[simp] theorem updAdrTimer_trace : (s.updAdrTimer).trace = s.trace := by unfold State.updAdrTimer; split <;> rfl
@[simp] theorem updAdrTimer_rdata : (s.updAdrTimer).rdata = s.rdata := by unfold State.updAdrTimer; split <;> rfl
@[simp] theorem updAdrTimer_inbox : (s.updAdrTimer).inbox = s.inbox := by unfold State.updAdrTimer; split <;> rfl

/-! ### deHook -/

@[simp] theorem deHook_cfg (v : Bool) : (s.deHook v).cfg = s.cfg := by
  unfold State.deHook
  repeat' split
  all_goals first | rfl | simp
@[simp] theorem deHook_regs (v : Bool) : (s.deHook v).regs = s.regs := by
  unfold State.deHook
  repeat' split
  all_goals first | rfl | simp
@[simp] theorem deHook_ctr (v : Bool) : (s.deHook v).ctr = s.ctr := by
  unfold State.deHook
  repeat' split
  all_goals first | rfl | simp
@[simp] theorem deHook_sig (v : Bool) : (s.deHook v).sig = s.sig := by
  unfold State.deHook
  repeat' split
  all_goals first | rfl | simp
@[simp] theorem deHook_geo (v : Bool) : (s.deHook v).geo = s.geo := by
  unfold State.deHook
  repeat' split
  all_goals first | rfl | simp
@[simp] theorem deHook_fatal (v : Bool) : (s.deHook v).fatal = s.fatal := by
  unfold State.deHook
  repeat' split
  all_goals first | rfl | simp
@[simp] theorem deHook_trace (v : Bool) : (s.deHook v).trace = s.trace := by
  unfold State.deHook
  repeat' split
  all_goals first | rfl | simp
@[simp] theorem deHook_rdata (v : Bool) : (s.deHook v).rdata = s.rdata := by
  unfold State.deHook
  repeat' split
  all_goals first | rfl | simp
@[simp] theorem deHook_inbox (v : Bool) : (s.deHook v).inbox = s.inbox := by
  unfold State.deHook
  repeat' split
  all_goals first | rfl | simp

/-! ### setDe -/

@[simp] theorem setDe_cfg (v : Bool) : (s.setDe v).cfg = s.cfg := by unfold State.setDe; split <;> simp
@[simp] theorem setDe_regs (v : Bool) : (s.setDe v).regs = s.regs := by unfold State.setDe; split <;> simp
@[simp] theorem setDe_ctr (v : Bool) : (s.setDe v).ctr = s.ctr := by unfold State.setDe; split <;> simp
@[simp] theorem setDe_geo (v : Bool) : (s.setDe v).geo = s.geo := by unfold State.setDe; split <;> simp
@[simp] theorem setDe_fatal (v : Bool) : (s.setDe v).fatal = s.fatal := by unfold State.setDe; split <;> simp
@[simp] theorem setDe_rdata (v : Bool) : (s.setDe v).rdata = s.rdata := by unfold State.setDe; split <;> simp
@[simp] theorem setDe_inbox (v : Bool) : (s.setDe v).inbox = s.inbox := by unfold State.setDe; split <;> simp

/-! ### callOnUpdateAddress -/

@[simp] theorem callOnUpdateAddress_cfg (b : Bool) : (s.callOnUpdateAddress b).cfg = s.cfg := by unfold State.callOnUpdateAddress; split <;> rfl
@[simp] theorem callOnUpdateAddress_regs (b : Bool) : (s.callOnUpdateAddress b).regs = s.regs := by unfold State.callOnUpdateAddress; split <;> rfl
@[simp] theorem callOnUpdateAddress_ctr (b : Bool) : (s.callOnUpdateAddress b).ctr = s.ctr := by unfold State.callOnUpdateAddress; split <;> rfl
@[simp] theorem callOnUpdateAddress_sig (b : Bool) : (s.callOnUpdateAddress b).sig = s.sig := by unfold State.callOnUpdateAddress; split <;> rfl
@[simp] theorem callOnUpdateAddress_geo (b : Bool) : (s.callOnUpdateAddress b).geo = s.geo := by unfold State.callOnUpdateAddress; split <;> rfl
@[simp] theorem callOnUpdateAddress_trace (b : Bool) : (s.callOnUpdateAddress b).trace = s.trace := by unfold State.callOnUpdateAddress; split <;> rfl
@[simp] theorem callOnUpdateAddress_rdata (b : Bool) : (s.callOnUpdateAddress b).rdata = s.rdata := by unfold State.callOnUpdateAddress; split <;> rfl
@[simp] theorem callOnUpdateAddress_inbox (b : Bool) : (s.callOnUpdateAddress b).inbox = s.inbox := by unfold State.callOnUpdateAddress; split <;> rfl

/-! ### transparentUpdate -/

@[simp] theorem transparentUpdate_cfg : (s.transparentUpdate).cfg = s.cfg := by
  unfold State.transparentUpdate
  repeat' split
  all_goals first | rfl | simp
@[simp] theorem transparentUpdate_sig : (s.transparentUpdate).sig = s.sig := by
  unfold State.transparentUpdate
  repeat' split
  all_goals first | rfl | simp
@[simp] theorem transparentUpdate_geo : (s.transparentUpdate).geo = s.geo := by
  unfold State.transparentUpdate
  repeat' split
  all_goals first | rfl | simp
@[simp] theorem transparentUpdate_trace : (s.transparentUpdate).trace = s.trace := by
  unfold State.transparentUpdate
  repeat' split
  all_goals first | rfl | simp
@[simp] theorem transparentUpdate_rdata : (s.transparentUpdate).rdata = s.rdata := by
  unfold State.transparentUpdate
  repeat' split
  all_goals first | rfl | simp
@[simp] theorem transparentUpdate_inbox : (s.transparentUpdate).inbox = s.inbox := by
  unfold State.transparentUpdate
  repeat' split
  all_goals first | rfl | simp

/-! ### updateCursorState -/

@[simp] theorem updateCursorState_cfg : (s.updateCursorState).cfg = s.cfg := rfl
@[simp] theorem updateCursorState_regs : (s.updateCursorState).regs = s.regs := rfl
@[simp] theorem updateCursorState_sig : (s.updateCursorState).sig = s.sig := rfl
@[simp] theorem updateCursorState_geo : (s.updateCursorState).geo = s.geo := rfl
@[simp] theorem updateCursorState_sched : (s.updateCursorState).sched = s.sched := rfl
@[simp] theorem updateCursorState_fatal : (s.updateCursorState).fatal = s.fatal := rfl
@[simp] theorem updateCursorState_trace : (s.updateCursorState).trace = s.trace := rfl
@[simp] theorem updateCursorState_rdata : (s.updateCursorState).rdata = s.rdata := rfl
@[simp] theorem updateCursorState_inbox : (s.updateCursorState).inbox = s.inbox := rfl

/-! ### emitGeom -/

@[simp] theorem emitGeom_cfg (g : GeomNums) : (s.emitGeom g).cfg = s.cfg := by unfold State.emitGeom; split <;> rfl
@[simp] theorem emitGeom_regs (g : GeomNums) : (s.emitGeom g).regs = s.regs := by unfold State.emitGeom; split <;> rfl
@[simp] theorem emitGeom_ctr (g : GeomNums) : (s.emitGeom g).ctr = s.ctr := by unfold State.emitGeom; split <;> rfl
@[simp] theorem emitGeom_sig (g : GeomNums) : (s.emitGeom g).sig = s.sig := by unfold State.emitGeom; split <;> rfl
@[simp] theorem emitGeom_geo (g : GeomNums) : (s.emitGeom g).geo = s.geo := by unfold State.emitGeom; split <;> rfl
@[simp] theorem emitGeom_sched (g : GeomNums) : (s.emitGeom g).sched = s.sched := by unfold State.emitGeom; split <;> rfl
@[simp] theorem emitGeom_fatal (g : GeomNums) : (s.emitGeom g).fatal = s.fatal := by unfold State.emitGeom; split <;> rfl
@[simp] theorem emitGeom_rdata (g : GeomNums) : (s.emitGeom g).rdata = s.rdata := by unfold State.emitGeom; split <;> rfl
@[simp] theorem emitGeom_inbox (g : GeomNums) : (s.emitGeom g).inbox = s.inbox := by unfold State.emitGeom; split <;> rfl

/-! ### recompute -/

@[simp] theorem recompute_cfg (r : Bool) : (s.recompute r).cfg = s.cfg := by
  unfold State.recompute
  dsimp only
  repeat' split
  all_goals first | rfl | simp
@[simp] theorem recompute_regs (r : Bool) : (s.recompute r).regs = s.regs := by
  unfold State.recompute
  dsimp only
  repeat' split
  all_goals first | rfl | simp
@[simp] theorem recompute_sig (r : Bool) : (s.recompute r).sig = s.sig := by
  unfold State.recompute
  dsimp only
  repeat' split
  all_goals first | rfl | simp
@[simp] theorem recompute_fatal (r : Bool) : (s.recompute r).fatal = s.fatal := by
  unfold State.recompute
  dsimp only
  repeat' split
  all_goals first | rfl | simp
@[simp] theorem recompute_rdata (r : Bool) : (s.recompute r).rdata = s.rdata := by
  unfold State.recompute
  dsimp only
  repeat' split
  all_goals first | rfl | simp
@[simp] theorem recompute_inbox (r : Bool) : (s.recompute r).inbox = s.inbox := by
  unfold State.recompute
  dsimp only
  repeat' split
  all_goals first | rfl | simp

/-! ### advanceCda -/

@[simp] theorem advanceCda_cfg (y : Nat) : (s.advanceCda y).cfg = s.cfg := by unfold State.advanceCda; split <;> rfl
@[simp] theorem advanceCda_regs (y : Nat) : (s.advanceCda y).regs = s.regs := by unfold State.advanceCda; split <;> rfl
@[simp] theorem advanceCda_sig (y : Nat) : (s.advanceCda y).sig = s.sig := by unfold State.advanceCda; split <;> rfl
@[simp] theorem advanceCda_geo (y : Nat) : (s.advanceCda y).geo = s.geo := by unfold State.advanceCda; split <;> rfl
@[simp] theorem advanceCda_sched (y : Nat) : (s.advanceCda y).sched = s.sched := by unfold State.advanceCda; split <;> rfl
@[simp] theorem advanceCda_fatal (y : Nat) : (s.advanceCda y).fatal = s.fatal := by unfold State.advanceCda; split <;> rfl
@[simp] theorem advanceCda_trace (y : Nat) : (s.advanceCda y).trace = s.trace := by unfold State.advanceCda; split <;> rfl
@[simp] theorem advanceCda_rdata (y : Nat) : (s.advanceCda y).rdata = s.rdata := by unfold State.advanceCda; split <;> rfl
@[simp] theorem advanceCda_inbox (y : Nat) : (s.advanceCda y).inbox = s.inbox := by unfold State.advanceCda; split <;> rfl

/-! ### frameCda -/

@[simp] theorem frameCda_cfg (y : Nat) : (s.frameCda y).cfg = s.cfg := by unfold State.frameCda; split <;> rfl
@[simp] theorem frameCda_regs (y : Nat) : (s.frameCda y).regs = s.regs := by unfold State.frameCda; split <;> rfl
@[simp] theorem frameCda_sig (y : Nat) : (s.frameCda y).sig = s.sig := by unfold State.frameCda; split <;> rfl
@[simp] theorem frameCda_geo (y : Nat) : (s.frameCda y).geo = s.geo := by unfold State.frameCda; split <;> rfl
@[simp] theorem frameCda_sched (y : Nat) : (s.frameCda y).sched = s.sched := by unfold State.frameCda; split <;> rfl
@[simp] theorem frameCda_fatal (y : Nat) : (s.frameCda y).fatal = s.fatal := by unfold State.frameCda; split <;> rfl
@[simp] theorem frameCda_trace (y : Nat) : (s.frameCda y).trace = s.trace := by unfold State.frameCda; split <;> rfl
@[simp] theorem frameCda_rdata (y : Nat) : (s.frameCda y).rdata = s.rdata := by unfold State.frameCda; split <;> rfl
@[simp] theorem frameCda_inbox (y : Nat) : (s.frameCda y).inbox = s.inbox := by unfold State.frameCda; split <;> rfl

/-! ### writeUpdateAddr -/

@[simp] theorem writeUpdateAddr_cfg (a : Addr) : (s.writeUpdateAddr a).cfg = s.cfg := by
  unfold State.writeUpdateAddr
  dsimp only
  repeat' split
  all_goals first | rfl | simp
@[simp] theorem writeUpdateAddr_ctr (a : Addr) : (s.writeUpdateAddr a).ctr = s.ctr := by
  unfold State.writeUpdateAddr
  dsimp only
  repeat' split
  all_goals first | rfl | simp
@[simp] theorem writeUpdateAddr_sig (a : Addr) : (s.writeUpdateAddr a).sig = s.sig := by
  unfold State.writeUpdateAddr
  dsimp only
  repeat' split
  all_goals first | rfl | simp
@[simp] theorem writeUpdateAddr_geo (a : Addr) : (s.writeUpdateAddr a).geo = s.geo := by
  unfold State.writeUpdateAddr
  dsimp only
  repeat' split
  all_goals first | rfl | simp
@[simp] theorem writeUpdateAddr_trace (a : Addr) : (s.writeUpdateAddr a).trace = s.trace := by
  unfold State.writeUpdateAddr
  dsimp only
  repeat' split
  all_goals first | rfl | simp
@[simp] theorem writeUpdateAddr_rdata (a : Addr) : (s.writeUpdateAddr a).rdata = s.rdata := by
  unfold State.writeUpdateAddr
  dsimp only
  repeat' split
  all_goals first | rfl | simp
@[simp] theorem writeUpdateAddr_inbox (a : Addr) : (s.writeUpdateAddr a).inbox = s.inbox := by
  unfold State.writeUpdateAddr
  dsimp only
  repeat' split
  all_goals first | rfl | simp

end Sys2Proof.Machine
end

