-- ==== Sys2Proof/Laws/Slots.lean ====
section
/-! SUPPORT. Reading and writing scheduler slots, and states in which nothing is due. -/

namespace Sys2Proof.Machine

/-- A slot after a write: the written tag reads the new value, every other tag reads as before. -/
@[simp] theorem Slots.get_set (x : Slots) (t u : Tag) (v : Option Slot) :
    (x.set t v).get u = if u = t then v else x.get u := by
  cases t <;> cases u <;> rfl

@[simp] theorem Slots.get_empty (t : Tag) : Slots.empty.get t = none := by
  cases t <;> rfl

/-- Two slot tables that read alike are equal. -/
theorem Slots.ext_get {x y : Slots} (h : ∀ t, x.get t = y.get t) : x = y := by
  have h1 := h .line
  have h2 := h .deOff
  have h3 := h .curOn
  have h4 := h .curOff
  have h5 := h .hsOn
  have h6 := h .hsOff
  have h7 := h .lpen
  have h8 := h .updAdr
  have h9 := h .updTrans
  cases x
  cases y
  simp_all [Slots.get]

/-- The tag list holds every tag. -/
theorem mem_allTags (t : Tag) : t ∈ allTags := by
  cases t <;> decide

@[simp] theorem futureSlot_none (n : Nat) : futureSlot n none = true := rfl

@[simp] theorem futureSlot_some (n : Nat) (sl : Slot) : futureSlot n (some sl) = decide (n < sl.due) := rfl

@[simp] theorem notPast_none (n : Nat) : notPast n none = true := rfl

@[simp] theorem notPast_some (n : Nat) (sl : Slot) : notPast n (some sl) = decide (n ≤ sl.due) := rfl

/-- Nothing is due, slot by slot. -/
theorem quiet_iff (s : State) :
    s.quiet = true ↔ ∀ t, futureSlot s.sched.now (s.sched.slots.get t) = true := by
  simp only [State.quiet, List.all_eq_true, slot_def]
  exact ⟨fun h t => h t (mem_allTags t), fun h t _ => h t⟩

/-- Being quiet depends on the scheduler alone. -/
theorem quiet_congr {s t : State} (h : s.sched = t.sched) : s.quiet = t.quiet := by
  simp only [State.quiet, slot_def, h]

/-- In a quiet state no slot is on the list of due slots. -/
theorem dueSlots_of_quiet {s : State} (h : s.quiet = true) : s.dueSlots = [] := by
  rw [State.dueSlots, List.filterMap_eq_nil_iff]
  intro t _
  have := (quiet_iff s).1 h t
  rw [slot_def]
  cases hs : s.sched.slots.get t with
  | none => rfl
  | some sl =>
    rw [hs, futureSlot_some, decide_eq_true_eq] at this
    simp [Slot.dueBy, this]

/-- In a quiet state no slot fires. -/
theorem pickDue_of_quiet {s : State} (h : s.quiet = true) : s.pickDue = none := by
  rw [State.pickDue, dueSlots_of_quiet h]
  rfl

/-- Scheduling with a positive delay keeps a state quiet. -/
theorem quiet_schedule {s : State} (h : s.quiet = true) (t : Tag) {d : Nat} (hd : 0 < d) :
    (s.schedule t d).quiet = true := by
  rw [quiet_iff] at h ⊢
  intro u
  simp only [schedule_sched, Slots.get_set]
  split
  · simp [hd]
  · exact h u

/-- Emptying a slot keeps a state quiet. -/
theorem quiet_cancel {s : State} (h : s.quiet = true) (t : Tag) : (s.cancel t).quiet = true := by
  rw [quiet_iff] at h ⊢
  intro u
  simp only [cancel_sched, Slots.get_set]
  split
  · rfl
  · exact h u

end Sys2Proof.Machine
end

