-- ==== Sys2Proof/Laws/Ops.lean ====
section
/-! SUPPORT. For each shared operation one lemma that says everything it can do. -/

namespace Sys2Proof.Machine

variable (s : State)

/-! ### Signal setters (R220 to R223) -/

theorem setHsync_cases (v : Bool) :
    (s.sig.hsync = v ∧ s.setHsync v = s) ∨
    (s.sig.hsync ≠ v ∧
      s.setHsync v = { s with sig := { s.sig with hsync := v }, trace := s.trace ++ [.hsync v] }) := by
  by_cases h : s.sig.hsync = v
  · exact .inl ⟨h, by simp [State.setHsync, h]⟩
  · exact .inr ⟨h, by simp [State.setHsync, h, State.emit]⟩

theorem setVsync_cases (v : Bool) :
    (s.sig.vsync = v ∧ s.setVsync v = s) ∨
    (s.sig.vsync ≠ v ∧
      s.setVsync v = { s with sig := { s.sig with vsync := v }, trace := s.trace ++ [.vsync v] }) := by
  by_cases h : s.sig.vsync = v
  · exact .inl ⟨h, by simp [State.setVsync, h]⟩
  · exact .inr ⟨h, by simp [State.setVsync, h, State.emit]⟩

theorem setCur_cases (v : Bool) :
    (s.sig.cursor = v ∧ s.setCur v = s) ∨
    (s.sig.cursor ≠ v ∧
      s.setCur v = { s with sig := { s.sig with cursor := v }, trace := s.trace ++ [.cursor v] }) := by
  by_cases h : s.sig.cursor = v
  · exact .inl ⟨h, by simp [State.setCur, h]⟩
  · exact .inr ⟨h, by simp [State.setCur, h, State.emit]⟩

@[simp] theorem setHsync_sig (v : Bool) : (s.setHsync v).sig = { s.sig with hsync := v } := by
  rcases setHsync_cases s v with ⟨h, e⟩ | ⟨_, e⟩
  · rw [e, ← h]
  · rw [e]

@[simp] theorem setVsync_sig (v : Bool) : (s.setVsync v).sig = { s.sig with vsync := v } := by
  rcases setVsync_cases s v with ⟨h, e⟩ | ⟨_, e⟩
  · rw [e, ← h]
  · rw [e]

@[simp] theorem setCur_sig (v : Bool) : (s.setCur v).sig = { s.sig with cursor := v } := by
  rcases setCur_cases s v with ⟨h, e⟩ | ⟨_, e⟩
  · rw [e, ← h]
  · rw [e]

/-- `upd_adr_timer` (R274). -/
theorem updAdrTimer_cases :
    ((s.sig.de = true ∨ s.cfg.transparent = false) ∧ s.updAdrTimer = s) ∨
    (s.sig.de = false ∧ s.cfg.transparent = true ∧ s.updAdrTimer = s.schedule .updAdr s.cfg.updDelay) := by
  unfold State.updAdrTimer
  cases s.sig.de <;> cases s.cfg.transparent <;> simp

@[simp] theorem setDe_sig (v : Bool) : (s.setDe v).sig = { s.sig with de := v } := by
  unfold State.setDe
  split
  · next h => rw [← h]
  · simp

/-- `set_de` (R223): nothing on the present level; else the level, the hook, the record. -/
theorem setDe_cases (v : Bool) :
    (s.sig.de = v ∧ s.setDe v = s) ∨
    (s.sig.de ≠ v ∧
      s.setDe v = (({ s with sig := { s.sig with de := v } } : State).deHook v).emit (.de v)) := by
  by_cases h : s.sig.de = v
  · exact .inl ⟨h, by simp [State.setDe, h]⟩
  · exact .inr ⟨h, by simp [State.setDe, h]⟩

/-- The hook of `set_de` (R223): it touches `T[UPD_ADR]` alone. -/
theorem deHook_cases (v : Bool) :
    (v = true ∧ s.deHook v = s.cancel .updAdr) ∨
    (v = false ∧ s.ctr.updateReady = false ∧ s.deHook v = s.updAdrTimer) ∨
    (v = false ∧ s.ctr.updateReady = true ∧ s.deHook v = s) := by
  cases v <;> cases h : s.ctr.updateReady <;> simp [State.deHook, h]

/-- `call_on_update_address` (R273, R301). -/
theorem callOnUpdateAddress_cases (b : Bool) :
    (s.cfg.updHandler = true ∧
      s.callOnUpdateAddress b = s.scheduleWith .updTrans 0 { addr := s.regs.updateAddr, strobe := b }) ∨
    (s.cfg.updHandler = false ∧ s.callOnUpdateAddress b = { s with fatal := true }) := by
  cases h : s.cfg.updHandler <;> simp [State.callOnUpdateAddress, h, State.raise]

/-- `transparent_update` (R272). -/
theorem transparentUpdate_cases :
    ((s.cfg.transparent = false ∨ s.transp = false) ∧ s.transparentUpdate = s) ∨
    (s.cfg.transparent = true ∧ s.transp = true ∧ s.tPhi2 = true ∧
      s.transparentUpdate = s.incUpdateAddr.callOnUpdateAddress s.updStrobe) ∨
    (s.cfg.transparent = true ∧ s.transp = true ∧ s.tPhi2 = false ∧ s.ctr.updateReady = true ∧
      s.transparentUpdate = (s.setUpdateReady false).updAdrTimer) ∨
    (s.cfg.transparent = true ∧ s.transp = true ∧ s.tPhi2 = false ∧ s.ctr.updateReady = false ∧
      s.transparentUpdate = s) := by
  unfold State.transparentUpdate
  cases s.cfg.transparent <;> cases s.transp <;> cases s.tPhi2 <;> cases s.ctr.updateReady <;> simp

/-- The vertical comparators (R187). -/
theorem matchLine_eq :
    s.matchLine =
      ({ s with ctr := { s.ctr with
          lineEnable := if s.ctr.lc = s.regs.vdisp then false else s.ctr.lineEnable,
          vswCtr := if s.ctr.lc = s.regs.vsyncPos then 0 else s.ctr.vswCtr,
          vsyncFf := if s.ctr.lc = s.regs.vsyncPos then true else s.ctr.vsyncFf } },
        decide (s.ctr.lc = s.regs.vsyncPos)) := by
  unfold State.matchLine
  by_cases h1 : s.ctr.lc = s.regs.vdisp <;> by_cases h2 : s.ctr.lc = s.regs.vsyncPos <;> simp_all

/-! ### Geometry (R242, R245) -/

/-- The recompute: nothing when the values are the cached ones and none is forced; else the record if the values are
valid, the cache, and the line restart unless restoring. -/
theorem recompute_cases (r : Bool) :
    (r = false ∧ s.deriveGeom = s.geo.nums ∧ s.recompute r = s) ∨
    (r = true ∧ s.recompute r = (s.emitGeom s.deriveGeom).storeGeom s.deriveGeom) ∨
    (r = false ∧ s.deriveGeom ≠ s.geo.nums ∧
      s.recompute r = ((s.emitGeom s.deriveGeom).storeGeom s.deriveGeom).restartLine) := by
  unfold State.recompute
  cases r
  · by_cases h : s.deriveGeom = s.geo.nums
    · exact .inl ⟨rfl, h, by simp [h]⟩
    · exact .inr (.inr ⟨rfl, h, by simp [h]⟩)
  · exact .inr (.inl ⟨rfl, by simp⟩)

/-- The recompute keeps a quiet state quiet: the line period is at least 1 (R190). -/
theorem quiet_recompute {s : State} (h : s.quiet = true) (r : Bool) : (s.recompute r).quiet = true := by
  rcases recompute_cases s r with ⟨_, _, e⟩ | ⟨_, e⟩ | ⟨_, _, e⟩
  · rw [e]; exact h
  · rw [e, quiet_congr (t := s) (by simp)]; exact h
  · rw [e, quiet_congr (t := s.schedule .line s.linePeriod) (by simp [State.linePeriod])]
    exact quiet_schedule h _ (Nat.succ_pos _)

end Sys2Proof.Machine
end

