-- ==== Sys2Proof/Laws/Scheduler.lean ====
section
/-! SUPPORT. `run_due` and the two closing actions of the bus. -/

namespace Sys2Proof.Machine

theorem runDueLoop_of_fatal {s : State} (h : s.fatal = true) (n : Nat) : runDueLoop n s = s := by
  cases n
  · rfl
  · simp [runDueLoop, h]

theorem runDueLoop_of_quiet {s : State} (h : s.quiet = true) (n : Nat) : runDueLoop n s = s := by
  cases n with
  | zero => rfl
  | succ n => simp [runDueLoop, pickDue_of_quiet h]

/-- One round of the loop (R181). -/
theorem runDueLoop_round {s : State} {t : Tag} {sl : Slot} (hl : s.fatal = false) (hp : s.pickDue = some (t, sl))
    (n : Nat) : runDueLoop (n + 1) s = runDueLoop n ((s.cancel t).fire sl.payload t) := by
  simp [runDueLoop, hl, hp]

/-- Under `fatal` nothing fires (R302). -/
theorem runDue_of_fatal {s : State} (h : s.fatal = true) : s.runDue = s := runDueLoop_of_fatal h _

/-- When nothing is due, `run_due` changes nothing (R181). -/
theorem runDue_of_quiet {s : State} (h : s.quiet = true) : s.runDue = s := runDueLoop_of_quiet h _

/-- The close of a write that leaves nothing due is the recompute (R120). -/
theorem closeWrite_of_quiet {s : State} (hl : s.fatal = false) (h : s.quiet = true) :
    s.closeWrite = s.recompute false := by
  simp [State.closeWrite, hl, runDue_of_quiet (quiet_recompute h false)]

/-- A data-port write of a running machine (R120). -/
theorem busWrite_of_live {s : State} (hl : s.fatal = false) (f : State → State) :
    busWrite f s = .next (f s).closeWrite := by
  simp [busWrite, State.unlessFatal, hl]

/-- A data-port write under `fatal` (R302). -/
theorem busWrite_of_fatal {s : State} (hf : s.fatal = true) (f : State → State) : busWrite f s = .next s := by
  simp [busWrite, State.unlessFatal, hf]

/-- A bus read of a running machine (R120). -/
theorem busRead_of_live {s : State} (hl : s.fatal = false) (v : State → Byte) (f : State → State) :
    busRead v f s = .next ({ f s with rdata := v s } : State).runDue := by
  simp [busRead, hl]

/-- A bus read under `fatal` returns 0x00 (R302). -/
theorem busRead_of_fatal {s : State} (hf : s.fatal = true) (v : State → Byte) (f : State → State) :
    busRead v f s = .next { s with rdata := 0 } := by
  simp [busRead, hf]

end Sys2Proof.Machine
end

