-- ==== Sys2Proof/Laws/Events.lean ====
section
/-! SUPPORT. The steps of the line tick, the handlers, the induction over `run_due`, and the bridge, one lemma each. -/

namespace Sys2Proof.Machine

/-! ### The steps of the line tick (R184 to R191) -/

/-- Step 1 (R185). -/
theorem lineStep1_eq (s : State) (nv : Bool) :
    lineStep1 s nv =
      if s.ctr.vsyncFf = true then
        ({ s with ctr := { s.ctr with
            vswCtr := s.ctr.vswCtr + 1
            vsyncFf := !decide (s.ctr.vswCtr + 1 = s.vswCmp) } },
          !decide (s.ctr.vswCtr + 1 = s.vswCmp) && nv)
      else (s, nv) := by
  unfold lineStep1
  cases hv : s.ctr.vsyncFf
  · simp
  · by_cases h : s.ctr.vswCtr + 1 = s.vswCmp
    · simp only [if_true, h, decide_true, Bool.not_true, Bool.false_and]
    · simp only [if_true, if_false, h, decide_false, Bool.not_false, Bool.true_and, hv]

/-- Step 4 schedules at most the fall of DE and the cursor pulse (R189). -/
theorem lineStep4_cases (s : State) :
    (s.ctr.lineEnable = false ∧ lineStep4 s = s) ∨
    (s.ctr.lineEnable = true ∧ s.cursorVisible s.ctr.ra.toNat s.ctr.lineAddr = false ∧
      lineStep4 s = s.schedule .deOff s.regs.hdisp.toNat) ∨
    (s.ctr.lineEnable = true ∧ s.cursorVisible s.ctr.ra.toNat s.ctr.lineAddr = true ∧
      lineStep4 s = (s.schedule .deOff s.regs.hdisp.toNat).schedule .curOn
        (s.regs.cursorAddr.toNat - s.ctr.lineAddr.toNat)) := by
  have hc : (s.schedule .deOff s.regs.hdisp.toNat).cursorVisible s.ctr.ra.toNat s.ctr.lineAddr =
      s.cursorVisible s.ctr.ra.toNat s.ctr.lineAddr := rfl
  unfold lineStep4
  cases s.ctr.lineEnable
  · exact .inl ⟨rfl, rfl⟩
  · cases hv : s.cursorVisible s.ctr.ra.toNat s.ctr.lineAddr
    · exact .inr (.inl ⟨rfl, rfl, by simp [hc, hv]⟩)
    · exact .inr (.inr ⟨rfl, rfl, by simp [hc, hv]⟩)

/-- Step 5 schedules HSYNC, then the next tick (R190). -/
theorem lineStep5_eq (s : State) :
    lineStep5 s = (s.schedule .hsOn s.regs.hsyncPos.toNat).schedule .line (s.regs.htotal.toNat + 1) := rfl

/-- Step 6 applies VSYNC, then DE (R191). -/
theorem lineStep6_eq (s : State) (nv : Bool) : lineStep6 s nv = (s.setVsync nv).setDe s.ctr.lineEnable := rfl

/-- The handler is the counters, then the schedule, then the signals (R183). -/
theorem evLine_eq (s : State) :
    evLine s = lineStep6 (lineStep5 (lineStep4 (lineCounters s).1)) (lineCounters s).2 := rfl

/-! ### The sub-timers (R193 to R196) and the update events (R275, R276) -/

theorem evHsOn_eq (s : State) :
    evHsOn s = (({ s with ctr := { s.ctr with hswCtr := 0 } } : State).setHsync true).schedule .hsOff s.hsw := by
  have h : ∀ u : State, (u.setHsync true).hsw = u.hsw := by
    intro u
    rcases setHsync_cases u true with ⟨_, e⟩ | ⟨_, e⟩ <;> simp only [e, State.hsw]
  unfold evHsOn
  simp only [h]
  rfl

theorem evCurOn_eq (s : State) : evCurOn s = (s.setCur true).schedule .curOff 1 := rfl

theorem evUpdTrans_cases (a : Addr) (b : Bool) (s : State) :
    (s.ctr.updateReady = false ∧ s.tBlank = true ∧
      evUpdTrans a b s = ((s.emit (.update a b)).incUpdateAddr).setUpdateReady true) ∨
    ((s.ctr.updateReady = true ∨ s.tBlank = false) ∧ evUpdTrans a b s = s.emit (.update a b)) := by
  have ht : (s.emit (.update a b)).tBlank = s.tBlank := rfl
  cases h : s.ctr.updateReady <;> cases h2 : s.tBlank <;> simp [evUpdTrans, ht, h, h2]

/-! ### The induction over `run_due` (R181) -/

/-- What every fired event keeps, `run_due` keeps: the slot that fires is the picked one, it is emptied first, and the
machine is running. -/
theorem runDue_induction {P : State → Prop}
    (hstep : ∀ (s : State) (t : Tag) (sl : Slot), P s → s.fatal = false → s.pickDue = some (t, sl) →
      P ((s.cancel t).fire sl.payload t))
    {s : State} (hs : P s) : P s.runDue := by
  suffices h : ∀ (n : Nat) (s : State), P s → P (runDueLoop n s) from h _ s hs
  intro n
  induction n with
  | zero => exact fun _ h => h
  | succ n ih =>
    intro s h
    cases hf : s.fatal with
    | true => rw [runDueLoop_of_fatal hf]; exact h
    | false =>
      cases hp : s.pickDue with
      | none => simpa [runDueLoop, hf, hp] using h
      | some p => rw [runDueLoop_round hf hp]; exact ih _ (hstep s p.1 p.2 h hf hp)

/-! ### The bridge (R260) -/

/-- One scanline in a state in which nothing is due: the record, then the address. -/
theorem scanRow_of_quiet {s : State} (hl : s.fatal = false) (hq : s.quiet = true) (y : Nat) :
    s.scanRow y = (s.emit (.row (s.rowRecord y))).advanceCda y := by
  have h : ((s.emit (.row (s.rowRecord y))).advanceCda y).quiet = true := by
    rw [quiet_congr (t := s) (by simp)]; exact hq
  simp [State.scanRow, State.unlessFatal, hl, runDue_of_quiet h]

/-- A scanline keeps a running machine running and the scheduler as it is. -/
theorem scanRow_sched {s : State} (hl : s.fatal = false) (hq : s.quiet = true) (y : Nat) :
    (s.scanRow y).fatal = false ∧ (s.scanRow y).sched = s.sched := by
  rw [scanRow_of_quiet hl hq]
  simp [hl]

end Sys2Proof.Machine
end

