-- ==== Sys2Proof/Laws/Operands.lean ====
section
/-! SUPPORT. The operand forms as arithmetic on their unsigned values. -/

namespace Sys2Proof.Machine

/-- Write of the high byte of a pair (R99). -/
theorem setHigh_eq (x : Addr) (d : Byte) : setHigh x d = BitVec.ofNat 14 (d.toNat % 64 * 256 + x.toNat % 256) := by
  apply BitVec.eq_of_toNat_eq
  rw [setHigh, BitVec.toNat_append, BitVec.extractLsb'_toNat, BitVec.extractLsb'_toNat, Nat.shiftRight_zero,
    Nat.shiftRight_zero, Nat.shiftLeft_eq, Nat.mul_comm, ← Nat.two_pow_add_eq_or_of_lt (Nat.mod_lt _ (by decide)),
    BitVec.toNat_ofNat]
  omega

/-- Write of the low byte of a pair (R99). -/
theorem setLow_eq (x : Addr) (d : Byte) : setLow x d = BitVec.ofNat 14 (x.toNat / 256 * 256 + d.toNat) := by
  have hx := x.isLt
  have hd := d.isLt
  apply BitVec.eq_of_toNat_eq
  rw [setLow, BitVec.toNat_append, BitVec.extractLsb'_toNat, Nat.shiftLeft_eq, Nat.mul_comm,
    ← Nat.two_pow_add_eq_or_of_lt hd, BitVec.toNat_ofNat, Nat.shiftRight_eq_div_pow]
  omega

/-- Read of the high byte of a pair (R99). -/
theorem highByte_eq (x : Addr) : highByte x = BitVec.ofNat 8 (x.toNat / 256) := by
  have hx := x.isLt
  apply BitVec.eq_of_toNat_eq
  rw [highByte, BitVec.toNat_setWidth, BitVec.extractLsb'_toNat, BitVec.toNat_ofNat, Nat.shiftRight_eq_div_pow]
  omega

/-- Read of the low byte of a pair (R99). -/
theorem lowByte_eq (x : Addr) : lowByte x = BitVec.ofNat 8 (x.toNat % 256) := by
  apply BitVec.eq_of_toNat_eq
  rw [lowByte, BitVec.extractLsb'_toNat, BitVec.toNat_ofNat, Nat.shiftRight_zero]
  omega

/-- The index that `SEL` loads (R94). -/
theorem latchIndex_eq (c : Config) (d : Byte) :
    latchIndex c d = BitVec.ofNat 6 (d.toNat % 2 ^ c.addrBits.bits) := by
  unfold latchIndex
  cases c.addrBits <;> apply BitVec.eq_of_toNat_eq
  · rw [BitVec.toNat_setWidth, BitVec.extractLsb'_toNat, BitVec.toNat_ofNat, Nat.shiftRight_zero, AddrWidth.bits]
  · rw [BitVec.extractLsb'_toNat, BitVec.toNat_ofNat, Nat.shiftRight_zero, AddrWidth.bits]
    omega

/-- The index that `SEL` loads is in the latch's range (R61). -/
theorem latchIndex_lt (c : Config) (d : Byte) : (latchIndex c d).toNat < 2 ^ c.addrBits.bits := by
  rw [latchIndex_eq, BitVec.toNat_ofNat]
  exact lt_of_le_of_lt (Nat.mod_le _ _) (Nat.mod_lt _ (Nat.two_pow_pos _))

/-- A 4-bit width is 1 to 16 (R95). -/
theorem widthField_bounds (f : BitVec 4) : 1 ≤ widthField f ∧ widthField f ≤ 16 := by
  revert f
  decide

/-- The HSYNC width is 1 to 16 (R197). -/
theorem hsw_bounds (s : State) : 1 ≤ s.hsw ∧ s.hsw ≤ 16 := widthField_bounds _

/-- The line period is never 0 (R190). -/
theorem linePeriod_pos (s : State) : 0 < s.linePeriod := Nat.succ_pos _

/-- On a well-formed configuration a character has at least one scanline (R197, R6). -/
theorem ch_pos {s : State} (h : s.cfg.wf = true) : 0 < s.ch := by
  simp only [Config.wf, Bool.and_eq_true, decide_eq_true_eq] at h
  unfold State.ch State.adj
  split <;> omega

end Sys2Proof.Machine
end

