-- ==== Sys2Proof/Laws/Geometry.lean ====
section
/-! SUPPORT. Horizontal positions beyond the line (R329) against the validity test (R243): where the two rules agree, and the
one position at which they do not (log 15). -/

namespace Sys2Proof.Machine

variable {s : State}

/-- R329: with HSYNC at or beyond the end of the line the geometry is invalid. At the end itself the clamp makes `hs_off`
equal to `hs_on` (R241, R243). -/
theorem isValid_of_hsync_beyond (h : s.regs.htotal.toNat + 1 ≤ s.regs.hsyncPos.toNat) :
    s.deriveGeom.isValid = false := by
  refine decide_eq_false fun ⟨_, _, _, _, _, _, hle, _, hne, _⟩ => hne ?_
  have hpix : (0 : Int) ≤ s.cfg.hpix := Int.natCast_nonneg _
  have hle : (s.regs.hsyncPos.toNat : Int) * s.cfg.hpix ≤ ((s.regs.htotal.toNat : Int) + 1) * s.cfg.hpix := hle
  have hge : ((s.regs.htotal.toNat : Int) + 1) * s.cfg.hpix ≤ s.regs.hsyncPos.toNat * s.cfg.hpix :=
    mul_le_mul_of_nonneg_right (by omega) hpix
  show (s.regs.hsyncPos.toNat : Int) * s.cfg.hpix = min _ _
  have hw : (0 : Int) ≤ s.hsw * s.cfg.hpix := mul_nonneg (Int.natCast_nonneg _) hpix
  omega

/-- R329: with more columns displayed than the line has, the geometry is invalid (`max_x >= h_total_px`). -/
theorem isValid_of_hdisp_beyond (h : s.regs.htotal.toNat + 1 < s.regs.hdisp.toNat) :
    s.deriveGeom.isValid = false := by
  refine decide_eq_false fun ⟨hpos, _, _, hlt, _⟩ => ?_
  have hpos : (0 : Int) < ((s.regs.htotal.toNat : Int) + 1) * s.cfg.hpix := hpos
  have hlt : (s.regs.hdisp.toNat : Int) * s.cfg.hpix - 1 < ((s.regs.htotal.toNat : Int) + 1) * s.cfg.hpix := hlt
  have hpix : (0 : Int) < s.cfg.hpix := pos_of_mul_pos_right hpos (by omega)
  have hge : ((s.regs.htotal.toNat : Int) + 1 + 1) * s.cfg.hpix ≤ s.regs.hdisp.toNat * s.cfg.hpix :=
    mul_le_mul_of_nonneg_right (by omega) hpix.le
  rw [add_mul _ 1, one_mul] at hge
  omega

/-- The one position at which R329 and R243 differ: with exactly the columns of the line displayed, `max_x` is the last pixel
of the line, so the reason that R329 gives (`max_x >= h_total_px`) does not hold (log 15). -/
theorem maxX_of_hdisp_last (h : s.regs.hdisp.toNat = s.regs.htotal.toNat + 1) :
    s.deriveGeom.maxX = s.deriveGeom.hTotalPx - 1 := by
  show (s.regs.hdisp.toNat : Int) * s.cfg.hpix - 1 = ((s.regs.htotal.toNat : Int) + 1) * s.cfg.hpix - 1
  rw [h, Nat.cast_succ]

end Sys2Proof.Machine
end

