-- ==== Sys2Proof/Laws/PerInstr.lean ====
section
/-! SUPPORT. For each operation: the encoder's word has the fixed bits that spec/opcode_table.json gives the row of the
operation, `word & mask = match` (R91, R93, R103, R104). -/

namespace Sys2Proof.Laws.EncodingMatchesTable

/-- The bits of an operation word that the opcode table numbers: the key of a bus word, the code of an event or a call. -/
def tableBits : OpWord → Nat
  | .bus k => k.toNat
  | .event c _ => c.toNat
  | .call c _ => c.toNat

/-- The columns `mask` and `match` of the row of an operation in spec/opcode_table.json. -/
def maskAndMatch : Instr → Nat × Nat
  | .sel _ => (0xC000, 0x0000)
  | .rdst => (0xC000, 0x4000)
  | .wrCr0 _ => (0xFF00, 0x8000)
  | .wrCr1 _ => (0xFF00, 0x8100)
  | .wrCr2 _ => (0xFF00, 0x8200)
  | .wrCr3 _ => (0xFF00, 0x8300)
  | .wrCr4 _ => (0xFF00, 0x8400)
  | .wrCr5 _ => (0xFF00, 0x8500)
  | .wrCr6 _ => (0xFF00, 0x8600)
  | .wrCr7 _ => (0xFF00, 0x8700)
  | .wrCr8 _ => (0xFF00, 0x8800)
  | .wrCr9 _ => (0xFF00, 0x8900)
  | .wrCr10 _ => (0xFF00, 0x8A00)
  | .wrCr11 _ => (0xFF00, 0x8B00)
  | .wrCr12 _ => (0xFF00, 0x8C00)
  | .wrCr13 _ => (0xFF00, 0x8D00)
  | .wrCr14 _ => (0xFF00, 0x8E00)
  | .wrCr15 _ => (0xFF00, 0x8F00)
  | .wrCr16 _ => (0xFF00, 0x9000)
  | .wrCr17 _ => (0xFF00, 0x9100)
  | .wrCr18 _ => (0xFF00, 0x9200)
  | .wrCr19 _ => (0xFF00, 0x9300)
  | .wrCr31 _ => (0xFF00, 0x9F00)
  | .wrUndef _ _ => (0xC000, 0x8000)
  | .rdCr0 => (0xFF00, 0xC000)
  | .rdCr1 => (0xFF00, 0xC100)
  | .rdCr2 => (0xFF00, 0xC200)
  | .rdCr3 => (0xFF00, 0xC300)
  | .rdCr4 => (0xFF00, 0xC400)
  | .rdCr5 => (0xFF00, 0xC500)
  | .rdCr6 => (0xFF00, 0xC600)
  | .rdCr7 => (0xFF00, 0xC700)
  | .rdCr8 => (0xFF00, 0xC800)
  | .rdCr9 => (0xFF00, 0xC900)
  | .rdCr10 => (0xFF00, 0xCA00)
  | .rdCr11 => (0xFF00, 0xCB00)
  | .rdCr12 => (0xFF00, 0xCC00)
  | .rdCr13 => (0xFF00, 0xCD00)
  | .rdCr14 => (0xFF00, 0xCE00)
  | .rdCr15 => (0xFF00, 0xCF00)
  | .rdCr16 => (0xFF00, 0xD000)
  | .rdCr17 => (0xFF00, 0xD100)
  | .rdCr18 => (0xFF00, 0xD200)
  | .rdCr19 => (0xFF00, 0xD300)
  | .rdCr31 => (0xFF00, 0xDF00)
  | .rdUndef _ => (0xC000, 0xC000)
  | .evLine => (0xF, 0x0)
  | .evDeOff => (0xF, 0x1)
  | .evCurOn => (0xF, 0x2)
  | .evCurOff => (0xF, 0x3)
  | .evHsOn => (0xF, 0x4)
  | .evHsOff => (0xF, 0x5)
  | .evLpen => (0xF, 0x6)
  | .evUpdAdr => (0xF, 0x7)
  | .evUpdTrans _ _ => (0xF, 0x8)
  | .clk => (0x7, 0x0)
  | .reset => (0x7, 0x1)
  | .lpstb => (0x7, 0x2)
  | .scan _ => (0x7, 0x3)
  | .frame _ _ => (0x7, 0x4)
  | .restore => (0x7, 0x5)

/-- The encoder's word has the fixed bits of the operation's row. -/
def Statement (i : Instr) : Prop := tableBits (encode i) &&& (maskAndMatch i).1 = (maskAndMatch i).2

/-- The high byte of a key does not depend on its data bits. -/
theorem high_byte_busKey (rs rw : Bool) (al : Index) (d : Byte) :
    (busKey rs rw al d).toNat &&& 0xFF00 = (busKey rs rw al 0).toNat :=
  congrArg BitVec.toNat (busKey_and_high rs rw al d)

/-- The two high bits of a key are the port and the direction. -/
theorem high_bits_busKey (rs rw : Bool) (al : Index) (d : Byte) :
    (busKey rs rw al d).toNat &&& 0xC000 = (busKey rs rw 0 0).toNat :=
  congrArg BitVec.toNat (busKey_and_port rs rw al d)

theorem sel (d : Byte) : Statement (.sel d) := high_bits_busKey false false 0 d

theorem rdst : Statement .rdst := high_bits_busKey false true 0 0

theorem wrCr0 (d : Byte) : Statement (.wrCr0 d) := high_byte_busKey true false 0 d

theorem wrCr1 (d : Byte) : Statement (.wrCr1 d) := high_byte_busKey true false 1 d

theorem wrCr2 (d : Byte) : Statement (.wrCr2 d) := high_byte_busKey true false 2 d

theorem wrCr3 (d : Byte) : Statement (.wrCr3 d) := high_byte_busKey true false 3 d

theorem wrCr4 (d : Byte) : Statement (.wrCr4 d) := high_byte_busKey true false 4 d

theorem wrCr5 (d : Byte) : Statement (.wrCr5 d) := high_byte_busKey true false 5 d

theorem wrCr6 (d : Byte) : Statement (.wrCr6 d) := high_byte_busKey true false 6 d

theorem wrCr7 (d : Byte) : Statement (.wrCr7 d) := high_byte_busKey true false 7 d

theorem wrCr8 (d : Byte) : Statement (.wrCr8 d) := high_byte_busKey true false 8 d

theorem wrCr9 (d : Byte) : Statement (.wrCr9 d) := high_byte_busKey true false 9 d

theorem wrCr10 (d : Byte) : Statement (.wrCr10 d) := high_byte_busKey true false 10 d

theorem wrCr11 (d : Byte) : Statement (.wrCr11 d) := high_byte_busKey true false 11 d

theorem wrCr12 (d : Byte) : Statement (.wrCr12 d) := high_byte_busKey true false 12 d

theorem wrCr13 (d : Byte) : Statement (.wrCr13 d) := high_byte_busKey true false 13 d

theorem wrCr14 (d : Byte) : Statement (.wrCr14 d) := high_byte_busKey true false 14 d

theorem wrCr15 (d : Byte) : Statement (.wrCr15 d) := high_byte_busKey true false 15 d

theorem wrCr16 (d : Byte) : Statement (.wrCr16 d) := high_byte_busKey true false 16 d

theorem wrCr17 (d : Byte) : Statement (.wrCr17 d) := high_byte_busKey true false 17 d

theorem wrCr18 (d : Byte) : Statement (.wrCr18 d) := high_byte_busKey true false 18 d

theorem wrCr19 (d : Byte) : Statement (.wrCr19 d) := high_byte_busKey true false 19 d

theorem wrCr31 (d : Byte) : Statement (.wrCr31 d) := high_byte_busKey true false 31 d

theorem wrUndef (al : Index) (d : Byte) : Statement (.wrUndef al d) := high_bits_busKey true false al d

theorem rdCr0 : Statement .rdCr0 := high_byte_busKey true true 0 0

theorem rdCr1 : Statement .rdCr1 := high_byte_busKey true true 1 0

theorem rdCr2 : Statement .rdCr2 := high_byte_busKey true true 2 0

theorem rdCr3 : Statement .rdCr3 := high_byte_busKey true true 3 0

theorem rdCr4 : Statement .rdCr4 := high_byte_busKey true true 4 0

theorem rdCr5 : Statement .rdCr5 := high_byte_busKey true true 5 0

theorem rdCr6 : Statement .rdCr6 := high_byte_busKey true true 6 0

theorem rdCr7 : Statement .rdCr7 := high_byte_busKey true true 7 0

theorem rdCr8 : Statement .rdCr8 := high_byte_busKey true true 8 0

theorem rdCr9 : Statement .rdCr9 := high_byte_busKey true true 9 0

theorem rdCr10 : Statement .rdCr10 := high_byte_busKey true true 10 0

theorem rdCr11 : Statement .rdCr11 := high_byte_busKey true true 11 0

theorem rdCr12 : Statement .rdCr12 := high_byte_busKey true true 12 0

theorem rdCr13 : Statement .rdCr13 := high_byte_busKey true true 13 0

theorem rdCr14 : Statement .rdCr14 := high_byte_busKey true true 14 0

theorem rdCr15 : Statement .rdCr15 := high_byte_busKey true true 15 0

theorem rdCr16 : Statement .rdCr16 := high_byte_busKey true true 16 0

theorem rdCr17 : Statement .rdCr17 := high_byte_busKey true true 17 0

theorem rdCr18 : Statement .rdCr18 := high_byte_busKey true true 18 0

theorem rdCr19 : Statement .rdCr19 := high_byte_busKey true true 19 0

theorem rdCr31 : Statement .rdCr31 := high_byte_busKey true true 31 0

theorem rdUndef (al : Index) : Statement (.rdUndef al) := high_bits_busKey true true al 0

theorem evLine : Statement .evLine := rfl

theorem evDeOff : Statement .evDeOff := rfl

theorem evCurOn : Statement .evCurOn := rfl

theorem evCurOff : Statement .evCurOff := rfl

theorem evHsOn : Statement .evHsOn := rfl

theorem evHsOff : Statement .evHsOff := rfl

theorem evLpen : Statement .evLpen := rfl

theorem evUpdAdr : Statement .evUpdAdr := rfl

theorem evUpdTrans (addr : Addr) (strobe : Bool) : Statement (.evUpdTrans addr strobe) := show (8 : Nat) &&& 15 = 8 from rfl

theorem clk : Statement .clk := rfl

theorem reset : Statement .reset := rfl

theorem lpstb : Statement .lpstb := rfl

theorem scan (y : Nat) : Statement (.scan y) := show (3 : Nat) &&& 7 = 3 from rfl

theorem frame (y0 y1 : Nat) : Statement (.frame y0 y1) := show (4 : Nat) &&& 7 = 4 from rfl

theorem restore : Statement .restore := rfl

end Sys2Proof.Laws.EncodingMatchesTable
end

