-- ==== Sys2Proof/Machine/Pseudo.lean ====
section
/-! DEFINITION. The pseudo-operations of R106 that need the machine's state: `LINE`, whose number of clocks is read from
`T[LINE]`, and `RP`, whose value is assembled from two reads. The expansions that need no state (`W`, `R`, `WP`, `RP`) stand
in Decode.lean. -/

namespace Sys2Proof.Machine

/-! ### Requests in sequence -/

/-- One request, issued before the others of the environment (R8). -/
def State.issue (s : State) (r : Request) : Host.Outcome State Fault Refusal := step { s with inbox := r :: s.inbox }

/-- The requests of an expansion, in order; a step that does not answer a next state ends it. -/
def State.issueAll (s : State) : List Request → Host.Outcome State Fault Refusal
  | [] => .next s
  | r :: rest =>
    match s.issue r with
    | .next t => t.issueAll rest
    | .fault e => .fault e
    | .refused e => .refused e

/-! ### The pairs -/

/-- The value of a pair that has been read, `hi[5:0] :: lo` (R106). -/
def pairValue (hi lo : Byte) : Addr := hi.extractLsb' 0 6 ++ lo

/-- `RP n`: the expansion `SEL n ; RD ; SEL n+1 ; RD`, and its value from the bytes that the two reads return. -/
def State.readPair (s : State) (n : Byte) : Option (State × Addr) :=
  match s.issueAll (reqR n) with
  | .next t =>
    match t.issueAll (reqR (n + 1)) with
    | .next u => some (u, pairValue t.rdata u.rdata)
    | .fault _ => none
    | .refused _ => none
  | .fault _ => none
  | .refused _ => none

/-! ### The line -/

/-- The due time of `T[LINE]`, if it is pending. -/
def State.lineDue (s : State) : Option Nat := (s.slot .line).map (·.due)

/-- The number of clocks until `EV.LINE` has fired once: each clock advances `now` by 1, and the clock that reaches the due
time of `T[LINE]` fires it (R106, R181, R182). It is 0 when no `EV.LINE` can fire any more, that is in a stopped machine,
and when the slot is due before any clock (DESIGN CHOICE, log 17). -/
def State.lineClocks (s : State) : Nat :=
  if s.fatal then 0
  else
    match s.lineDue with
    | some due => due - s.sched.now
    | none => 0

/-- `LINE`: `CLK` repeated until `EV.LINE` has fired once. -/
def State.reqLine (s : State) : List Request := reqClk s.lineClocks

end Sys2Proof.Machine
end

