-- ==== Sys2Proof/Laws/Pseudo.lean ====
section
/-! SUPPORT. The pseudo-operations of R106: the value of `RP`, and the count of `LINE`. -/

namespace Sys2Proof.Machine

/-! ### RP -/

/-- The value of a pair (R106). -/
theorem pairValue_eq (hi lo : Byte) : pairValue hi lo = BitVec.ofNat 14 (hi.toNat % 64 * 256 + lo.toNat) := by
  have hl := lo.isLt
  apply BitVec.eq_of_toNat_eq
  rw [pairValue, BitVec.toNat_append, BitVec.extractLsb'_toNat, Nat.shiftRight_zero, Nat.shiftLeft_eq, Nat.mul_comm,
    ← Nat.two_pow_add_eq_or_of_lt hl, BitVec.toNat_ofNat]
  omega

/-- Reading a pair back gives the pair (R99, R106). -/
theorem pairValue_of_bytes (x : Addr) : pairValue (highByte x) (lowByte x) = x := by
  have hx := x.isLt
  apply BitVec.eq_of_toNat_eq
  rw [pairValue_eq, highByte_eq, lowByte_eq, BitVec.toNat_ofNat, BitVec.toNat_ofNat, BitVec.toNat_ofNat]
  omega

/-- The two writes of `WP` leave the value that `RP` reads (R99, R106). -/
theorem setLow_setHigh (x : Addr) (hi lo : Byte) : setLow (setHigh x hi) lo = pairValue hi lo := by
  apply BitVec.eq_of_toNat_eq
  rw [setLow_eq, setHigh_eq, pairValue_eq, BitVec.toNat_ofNat, BitVec.toNat_ofNat, BitVec.toNat_ofNat]
  omega

/-! ### LINE -/

/-- What is kept by all that an event does beside the line tick. -/
structure SameLine (s t : State) : Prop where
  /-- `now` stands. -/
  now : t.sched.now = s.sched.now
  /-- `T[LINE]` stands. -/
  line : t.sched.slots.line = s.sched.slots.line
  /-- The line period stands. -/
  htotal : t.regs.htotal = s.regs.htotal

theorem SameLine.refl (s : State) : SameLine s s := ⟨rfl, rfl, rfl⟩

theorem SameLine.trans {s t u : State} (h : SameLine s t) (k : SameLine t u) : SameLine s u :=
  ⟨k.now.trans h.now, k.line.trans h.line, k.htotal.trans h.htotal⟩

theorem sameLine_scheduleWith (s : State) {t : Tag} (h : t ≠ .line) (d : Nat) (p : Payload) :
    SameLine s (s.scheduleWith t d p) := by
  cases t <;> first | exact absurd rfl h | exact ⟨rfl, rfl, rfl⟩

theorem sameLine_schedule (s : State) {t : Tag} (h : t ≠ .line) (d : Nat) : SameLine s (s.schedule t d) :=
  sameLine_scheduleWith s h d _

theorem sameLine_cancel (s : State) {t : Tag} (h : t ≠ .line) : SameLine s (s.cancel t) := by
  cases t <;> first | exact absurd rfl h | exact ⟨rfl, rfl, rfl⟩

theorem sameLine_updAdrTimer (s : State) : SameLine s s.updAdrTimer := by
  rcases updAdrTimer_cases s with ⟨_, e⟩ | ⟨_, _, e⟩ <;> rw [e]
  · exact .refl s
  · exact sameLine_schedule s (by decide) _

theorem sameLine_setHsync (s : State) (v : Bool) : SameLine s (s.setHsync v) := by
  rcases setHsync_cases s v with ⟨_, e⟩ | ⟨_, e⟩ <;> rw [e] <;> exact ⟨rfl, rfl, rfl⟩

theorem sameLine_setVsync (s : State) (v : Bool) : SameLine s (s.setVsync v) := by
  rcases setVsync_cases s v with ⟨_, e⟩ | ⟨_, e⟩ <;> rw [e] <;> exact ⟨rfl, rfl, rfl⟩

theorem sameLine_setCur (s : State) (v : Bool) : SameLine s (s.setCur v) := by
  rcases setCur_cases s v with ⟨_, e⟩ | ⟨_, e⟩ <;> rw [e] <;> exact ⟨rfl, rfl, rfl⟩

theorem sameLine_deHook (s : State) (v : Bool) : SameLine s (s.deHook v) := by
  rcases deHook_cases s v with ⟨_, e⟩ | ⟨_, _, e⟩ | ⟨_, _, e⟩ <;> rw [e]
  · exact sameLine_cancel s (by decide)
  · exact sameLine_updAdrTimer s
  · exact .refl s

theorem sameLine_setDe (s : State) (v : Bool) : SameLine s (s.setDe v) := by
  rcases setDe_cases s v with ⟨_, e⟩ | ⟨_, e⟩ <;> rw [e]
  · exact .refl s
  · refine SameLine.trans (t := { s with sig := { s.sig with de := v } }) ⟨rfl, rfl, rfl⟩ ?_
    exact (sameLine_deHook _ v).trans ⟨rfl, rfl, rfl⟩

theorem sameLine_callOnUpdateAddress (s : State) (b : Bool) : SameLine s (s.callOnUpdateAddress b) := by
  rcases callOnUpdateAddress_cases s b with ⟨_, e⟩ | ⟨_, e⟩ <;> rw [e]
  · exact sameLine_scheduleWith s (by decide) _ _
  · exact ⟨rfl, rfl, rfl⟩

/-- An event other than the line tick leaves `T[LINE]`. -/
theorem sameLine_fire (s : State) (p : Payload) {t : Tag} (h : t ≠ .line) : SameLine s (s.fire p t) := by
  cases t
  case line => exact absurd rfl h
  case deOff => exact sameLine_setDe s false
  case curOn => exact (sameLine_setCur s true).trans (sameLine_schedule _ (by decide) 1)
  case curOff => exact sameLine_setCur s false
  case hsOn =>
    show SameLine s (evHsOn s)
    rw [evHsOn_eq]
    refine SameLine.trans (t := { s with ctr := { s.ctr with hswCtr := 0 } }) ⟨rfl, rfl, rfl⟩ ?_
    exact (sameLine_setHsync _ true).trans (sameLine_schedule _ (t := .hsOff) (by decide) _)
  case hsOff => exact sameLine_setHsync s false
  case lpen => exact ⟨rfl, rfl, rfl⟩
  case updAdr => exact sameLine_callOnUpdateAddress s _
  case updTrans =>
    show SameLine s (evUpdTrans p.addr p.strobe s)
    rcases evUpdTrans_cases p.addr p.strobe s with ⟨_, _, e⟩ | ⟨_, e⟩ <;> rw [e] <;> exact ⟨rfl, rfl, rfl⟩

theorem sameLine_lineStep1 (s : State) (nv : Bool) : SameLine s (lineStep1 s nv).1 := by
  rw [lineStep1_eq]
  split <;> exact ⟨rfl, rfl, rfl⟩

theorem sameLine_endOfFrame (s : State) : SameLine s s.endOfFrame := by
  unfold State.endOfFrame
  split <;> exact ⟨rfl, rfl, rfl⟩

theorem sameLine_matchLine (s : State) : SameLine s s.matchLine.1 := by
  rw [matchLine_eq]
  exact ⟨rfl, rfl, rfl⟩

theorem sameLine_lineStep2 (s : State) (nv : Bool) : SameLine s (lineStep2 s nv).1 := by
  unfold lineStep2
  split
  · exact (sameLine_endOfFrame s).trans (SameLine.trans (t := s.endOfFrame.nextRow) ⟨rfl, rfl, rfl⟩ (sameLine_matchLine _))
  · exact ⟨rfl, rfl, rfl⟩

theorem sameLine_lineStep3 (s : State) (nv : Bool) : SameLine s (lineStep3 s nv).1 := by
  unfold lineStep3
  by_cases ha : s.ctr.adjActive = true
  · by_cases hr : s.ctr.adjCtr = s.regs.vtotalAdj
    · refine SameLine.trans (t := s.frameOrigin) ⟨rfl, rfl, rfl⟩ ?_
      cases hv : s.frameOrigin.cfg.vswField
      · simp only [ha, hr, hv, if_true, Bool.false_eq_true, if_false]
        exact ⟨rfl, rfl, rfl⟩
      · simp only [ha, hr, hv, if_true]
        exact (sameLine_matchLine _).trans ⟨rfl, rfl, rfl⟩
    · simp only [ha, hr, if_true, if_false]
      exact ⟨rfl, rfl, rfl⟩
  · simp only [ha]
    exact .refl s

/-- The steps of the line tick before the schedule leave `T[LINE]` (R184 to R188). -/
theorem sameLine_lineCounters (s : State) : SameLine s (lineCounters s).1 := by
  have h0 : SameLine s (lineStep0 s).1 := ⟨rfl, rfl, rfl⟩
  unfold lineCounters
  generalize lineStep0 s = p at h0 ⊢
  have h1 := sameLine_lineStep1 p.1 p.2
  dsimp only
  generalize lineStep1 p.1 p.2 = q at h1 ⊢
  have h2 := sameLine_lineStep2 q.1 q.2
  generalize lineStep2 q.1 q.2 = r at h2 ⊢
  exact ((h0.trans h1).trans h2).trans (sameLine_lineStep3 r.1 r.2)

/-- Step 4 leaves `T[LINE]` (R189). -/
theorem sameLine_lineStep4 (s : State) : SameLine s (lineStep4 s) := by
  rcases lineStep4_cases s with ⟨_, e⟩ | ⟨_, _, e⟩ | ⟨_, _, e⟩ <;> rw [e]
  · exact .refl s
  · exact sameLine_schedule s (by decide) _
  · exact (sameLine_schedule s (t := .deOff) (by decide) _).trans (sameLine_schedule _ (by decide) _)

/-- Step 6 leaves `T[LINE]` (R191). -/
theorem sameLine_lineStep6 (s : State) (nv : Bool) : SameLine s (lineStep6 s nv) :=
  (sameLine_setVsync s nv).trans (sameLine_setDe _ _)

/-- The line tick sets `T[LINE]` one line period ahead (R190) and leaves `now` and the period. -/
theorem evLine_line (s : State) :
    (evLine s).sched.now = s.sched.now ∧ (evLine s).regs.htotal = s.regs.htotal ∧
    (evLine s).lineDue = some (s.sched.now + s.linePeriod) := by
  have h := (sameLine_lineCounters s).trans (sameLine_lineStep4 _)
  rw [evLine_eq]
  generalize lineStep4 (lineCounters s).1 = u at h ⊢
  have k := sameLine_lineStep6 (lineStep5 u) (lineCounters s).2
  generalize lineStep6 (lineStep5 u) (lineCounters s).2 = v at k ⊢
  refine ⟨k.now.trans h.now, k.htotal.trans h.htotal, ?_⟩
  show v.sched.slots.line.map (·.due) = _
  rw [k.line, lineStep5_eq]
  show some (u.sched.now + (u.regs.htotal.toNat + 1)) = _
  rw [h.now, h.htotal]
  rfl

/-- The entry that fires next is one of the list. -/
theorem leastSeq_mem {l : List (Tag × Slot)} {x : Tag × Slot} (h : leastSeq l = some x) : x ∈ l := by
  induction l generalizing x with
  | nil => cases h
  | cons y l ih =>
    unfold leastSeq at h
    split at h
    · cases h
      exact List.mem_cons_self
    · next z hz =>
      split at h
      · cases h
        exact List.mem_cons_self
      · cases h
        exact List.mem_cons_of_mem _ (ih hz)

/-- The slot that fires next is pending and due (R181). -/
theorem pickDue_due {s : State} {t : Tag} {sl : Slot} (h : s.pickDue = some (t, sl)) :
    s.slot t = some sl ∧ sl.due ≤ s.sched.now := by
  obtain ⟨u, _, hu⟩ := List.mem_filterMap.1 (leastSeq_mem h)
  split at hu
  · next x hx =>
    split at hu
    · next hd =>
      cases hu
      exact ⟨hx, of_decide_eq_true hd⟩
    · cases hu
  · cases hu

/-- What a clock can do to `T[LINE]` (R181, R182), before or after the tick it may fire. -/
structure LineWatch (s : State) (due : Nat) (t : State) : Prop where
  /-- The clock stands at the next instant. -/
  now : t.sched.now = s.sched.now + 1
  /-- The line period stands. -/
  htotal : t.regs.htotal = s.regs.htotal
  /-- `T[LINE]` waits, or it was due and has been set one line period ahead. -/
  line : t.lineDue = some due ∨ (due ≤ s.sched.now + 1 ∧ t.lineDue = some (s.sched.now + 1 + s.linePeriod))

/-- A clock of a running machine leaves `T[LINE]` waiting, or fires it when it is due. -/
theorem clk_lineWatch {s : State} {due : Nat} (hl : s.fatal = false) (h : s.lineDue = some due) :
    ∃ t, exec .clk s = .next t ∧ LineWatch s due t := by
  refine ⟨s.tick.runDue, by simp [exec, execClk, State.unlessFatal, hl], ?_⟩
  refine runDue_induction ?_ ⟨rfl, rfl, .inl h⟩
  intro u t sl hu _ hp
  by_cases ht : t = .line
  · subst ht
    obtain ⟨hs, hd⟩ := pickDue_due hp
    obtain ⟨e1, e2, e3⟩ := evLine_line (u.cancel .line)
    have hdue : due ≤ s.sched.now + 1 := by
      rcases hu.line with h | h
      · rw [State.lineDue, hs, Option.map_some, Option.some.injEq] at h
        rw [← h, ← hu.now]
        exact hd
      · exact h.1
    refine ⟨e1.trans hu.now, e2.trans hu.htotal, .inr ⟨hdue, e3.trans ?_⟩⟩
    rw [cancel_sched, ← hu.now]
    simp only [State.linePeriod, cancel_regs, hu.htotal]
  · have k := (sameLine_cancel u ht).trans (sameLine_fire (u.cancel t) sl.payload ht)
    exact ⟨k.now.trans hu.now, k.htotal.trans hu.htotal,
      by simpa only [State.lineDue, slot_def, Slots.get, k.line] using hu.line⟩

/-- A count that is not 0 is the distance to the due time of `T[LINE]` of a running machine. -/
theorem lineDue_of_lineClocks {s : State} (h : 0 < s.lineClocks) :
    s.fatal = false ∧ s.lineDue = some (s.sched.now + s.lineClocks) := by
  cases hf : s.fatal <;> cases hd : s.lineDue <;> simp [State.lineClocks, hf, hd] at h ⊢
  omega

/-- A clock before the last leaves `T[LINE]` as it was, with one clock less to go (R106, R182). -/
theorem lineClocks_waits {s : State} (h : 1 < s.lineClocks) :
    ∃ t, exec .clk s = .next t ∧ t.lineDue = s.lineDue ∧ (t.fatal = false → t.lineClocks = s.lineClocks - 1) := by
  obtain ⟨hl, hd⟩ := lineDue_of_lineClocks (Nat.lt_of_succ_lt h)
  obtain ⟨t, ht, w⟩ := clk_lineWatch hl hd
  have hk : t.lineDue = s.lineDue := by
    rcases w.line with k | k
    · rw [k, hd]
    · omega
  refine ⟨t, ht, hk, fun hf => ?_⟩
  rw [State.lineClocks, hf, hk, hd, w.now]
  show s.sched.now + s.lineClocks - (s.sched.now + 1) = _
  omega

/-- In the last clock `EV.LINE` fires: once nothing is due, `T[LINE]` stands one line period ahead (R106, R190). -/
theorem lineClocks_fires {s : State} (h : s.lineClocks = 1) :
    ∃ t, exec .clk s = .next t ∧ (t.quiet = true → t.lineDue = some (t.sched.now + s.linePeriod)) := by
  obtain ⟨hl, hd⟩ := lineDue_of_lineClocks (s := s) (by omega)
  obtain ⟨t, ht, w⟩ := clk_lineWatch hl hd
  refine ⟨t, ht, fun hq => ?_⟩
  rcases w.line with k | k
  · obtain ⟨sl, hs, e⟩ := Option.map_eq_some_iff.1 k
    have hf := (quiet_iff t).1 hq .line
    rw [← slot_def, hs, futureSlot_some, decide_eq_true_eq, e, w.now] at hf
    omega
  · rw [k.2, w.now]

end Sys2Proof.Machine
end

