-- ==== Sys2Proof/Tests/Slice0.lean ====
section
/-! SUPPORT. Tests. Expected results are the worked examples of the rules of spec/ (each theorem names its rule) or are
worked out by hand from the rule; words are written out from the encodings of spec/30_encoding.md. The last section shows,
for each statement of Certificates/Slice0/Obligations.lean that has hypotheses, concrete values that meet them. -/

namespace Sys2Proof.Tests

open Sys2Proof.Machine

/-! ### Helpers -/

/-- The chip of `CFG_B` at power-on. -/
def chipB : State := State.powerOn Config.cfgB

/-- The chip of `CFG_A` at power-on. -/
def chipA : State := State.powerOn Config.cfgA

/-- An ill-formed chip: transparent mode without a handler (R6). -/
def chipNoHandler : State := State.powerOn { Config.cfgB with updHandler := false }

/-- A register bank in place of the state's. -/
def regs (f : RegisterBank → RegisterBank) (s : State) : State := { s with regs := f s.regs }

/-- Counters in place of the state's. -/
def ctr (f : Counters → Counters) (s : State) : State := { s with ctr := f s.ctr }

/-- Signals in place of the state's. -/
def sig (f : Signals → Signals) (s : State) : State := { s with sig := f s.sig }

/-- `CR.mode` in place of the state's. -/
def mode (m : Byte) (s : State) : State := regs (fun r => { r with mode := m }) s

/-- `now` in place of the state's, and `T[LINE]` one line of 256 clocks ahead. -/
def at' (n : Nat) (s : State) : State :=
  ({ s with sched := { s.sched with now := n } } : State).schedule .line 256

/-- The next state, if there is one. -/
def next (i : Instr) (s : State) : Option State :=
  match exec i s with
  | .next t => some t
  | .fault _ => none
  | .refused _ => none

/-- A view of the next state. -/
def look {α : Type} (i : Instr) (s : State) (f : State → α) : Option α := (next i s).map f

/-- The due times of the pending slots. -/
def dueOf (t : Tag) (s : State) : Option Nat := (s.slot t).map (·.due)

/-! ### Well-formedness: each check refuses an ill-formed term -/

/-- R6: both reference configurations are well formed; each clause refuses. -/
theorem test_config_wf :
    Config.cfgA.wf = true ∧ Config.cfgB.wf = true ∧
    ({ Config.cfgB with adjNonint := 0 } : Config).wf = false ∧
    ({ Config.cfgB with adjInt := 0 } : Config).wf = false ∧
    ({ Config.cfgB with hpix := 0 } : Config).wf = false ∧
    ({ Config.cfgB with updDelay := 0 } : Config).wf = false ∧
    ({ Config.cfgB with updHandler := false } : Config).wf = false := by decide

/-- R101: the undefined indices at the ends of their ranges. -/
theorem test_undefined_index :
    (Instr.wrUndef 19 0).wf = false ∧ (Instr.wrUndef 20 0).wf = true ∧ (Instr.wrUndef 30 0).wf = true ∧
    (Instr.wrUndef 31 0).wf = false ∧ (Instr.rdUndef 31).wf = false ∧ (Instr.rdUndef 32).wf = true ∧
    (Instr.rdUndef 63).wf = true := by decide

/-- R261: `y0 <= y1`. -/
theorem test_frame_wf : (Instr.frame 5 4).wf = false ∧ (Instr.frame 5 5).wf = true := by decide

/-- R91: bit 13 of the key is 0 on a 5-bit variant. -/
theorem test_wfFor :
    (Instr.wrUndef 32 0).wfFor Config.cfgA = false ∧ (Instr.rdUndef 63).wfFor Config.cfgA = false ∧
    (Instr.wrUndef 32 0).wfFor Config.cfgB = true ∧ (Instr.rdUndef 30).wfFor Config.cfgA = true := by decide

/-- R104: an undefined code or a wrong number of arguments. -/
theorem test_request_wf :
    (Request.call 6 []).wf = false ∧ (Request.call 7 [1]).wf = false ∧ (Request.call 0 [1]).wf = false ∧
    (Request.call 3 []).wf = false ∧ (Request.call 4 [1]).wf = false ∧ (Request.call 4 [1, 2]).wf = true := by decide

/-- R6: construction refuses an ill-formed configuration. -/
theorem test_construct_refuses :
    State.construct { Config.cfgB with updHandler := false } = .refused .illFormedConfig := rfl

/-! ### Decoding: the words of spec/30_encoding.md, written out -/

theorem test_decode_address_port :
    decode (.bus 0b00000000_01001100) = .ok (.sel 0x4C) ∧ decode (.bus 0b00111111_11111111) = .ok (.sel 0xFF) ∧
    decode (.bus 0b01000000_00000000) = .ok .rdst ∧ decode (.bus 0b01101010_11110000) = .ok .rdst := by decide

theorem test_decode_writes_low :
    decode (.bus 0b10000000_00110001) = .ok (.wrCr0 49) ∧ decode (.bus 0b10000001_00101000) = .ok (.wrCr1 40) ∧
    decode (.bus 0b10000010_00101010) = .ok (.wrCr2 42) ∧ decode (.bus 0b10000011_01000010) = .ok (.wrCr3 0x42) ∧
    decode (.bus 0b10000100_10011000) = .ok (.wrCr4 0x98) ∧ decode (.bus 0b10000101_11100110) = .ok (.wrCr5 0xE6) ∧
    decode (.bus 0b10000110_00010100) = .ok (.wrCr6 20) ∧ decode (.bus 0b10000111_00010110) = .ok (.wrCr7 22) ∧
    decode (.bus 0b10001000_00000100) = .ok (.wrCr8 4) ∧ decode (.bus 0b10001001_00000111) = .ok (.wrCr9 7) := by
  decide

theorem test_decode_writes_high :
    decode (.bus 0b10001010_01000110) = .ok (.wrCr10 0x46) ∧ decode (.bus 0b10001011_11111111) = .ok (.wrCr11 0xFF) ∧
    decode (.bus 0b10001100_11000001) = .ok (.wrCr12 0xC1) ∧ decode (.bus 0b10001101_01000000) = .ok (.wrCr13 0x40) ∧
    decode (.bus 0b10001110_00111111) = .ok (.wrCr14 0x3F) ∧ decode (.bus 0b10001111_00010001) = .ok (.wrCr15 0x11) ∧
    decode (.bus 0b10010000_00111111) = .ok (.wrCr16 0x3F) ∧ decode (.bus 0b10010001_00111111) = .ok (.wrCr17 0x3F) ∧
    decode (.bus 0b10010010_00010010) = .ok (.wrCr18 0x12) ∧ decode (.bus 0b10010011_00110100) = .ok (.wrCr19 0x34) ∧
    decode (.bus 0b10011111_01010101) = .ok (.wrCr31 0x55) ∧
    decode (.bus 0b10011001_11111111) = .ok (.wrUndef 25 0xFF) ∧
    decode (.bus 0b10100000_00000001) = .ok (.wrUndef 32 1) := by decide

theorem test_decode_reads_low :
    decode (.bus 0b11000000_00000000) = .ok .rdCr0 ∧ decode (.bus 0b11000001_00000000) = .ok .rdCr1 ∧
    decode (.bus 0b11000010_00000000) = .ok .rdCr2 ∧ decode (.bus 0b11000011_00000000) = .ok .rdCr3 ∧
    decode (.bus 0b11000100_00000000) = .ok .rdCr4 ∧ decode (.bus 0b11000101_00000000) = .ok .rdCr5 ∧
    decode (.bus 0b11000110_00000000) = .ok .rdCr6 ∧ decode (.bus 0b11000111_00000000) = .ok .rdCr7 ∧
    decode (.bus 0b11001000_00000000) = .ok .rdCr8 ∧ decode (.bus 0b11001001_00000000) = .ok .rdCr9 ∧
    decode (.bus 0b11001010_00000000) = .ok .rdCr10 ∧ decode (.bus 0b11001011_00000000) = .ok .rdCr11 := by decide

theorem test_decode_reads_high :
    decode (.bus 0b11001100_00000000) = .ok .rdCr12 ∧ decode (.bus 0b11001101_00000000) = .ok .rdCr13 ∧
    decode (.bus 0b11001110_00000000) = .ok .rdCr14 ∧ decode (.bus 0b11001111_00000000) = .ok .rdCr15 ∧
    decode (.bus 0b11010000_00000000) = .ok .rdCr16 ∧ decode (.bus 0b11010001_00000000) = .ok .rdCr17 ∧
    decode (.bus 0b11010010_00000000) = .ok .rdCr18 ∧ decode (.bus 0b11010011_00000000) = .ok .rdCr19 ∧
    decode (.bus 0b11011111_10101010) = .ok .rdCr31 ∧ decode (.bus 0b11010100_00000000) = .ok (.rdUndef 20) ∧
    decode (.bus 0b11111111_00000000) = .ok (.rdUndef 63) := by decide

theorem test_decode_events :
    decode (.event 0b0000 Payload.empty) = .ok .evLine ∧ decode (.event 0b0001 Payload.empty) = .ok .evDeOff ∧
    decode (.event 0b0010 Payload.empty) = .ok .evCurOn ∧ decode (.event 0b0011 Payload.empty) = .ok .evCurOff ∧
    decode (.event 0b0100 Payload.empty) = .ok .evHsOn ∧ decode (.event 0b0101 Payload.empty) = .ok .evHsOff ∧
    decode (.event 0b0110 Payload.empty) = .ok .evLpen ∧ decode (.event 0b0111 Payload.empty) = .ok .evUpdAdr ∧
    decode (.event 0b1000 { addr := 0x3FFF, strobe := true }) = .ok (.evUpdTrans 0x3FFF true) ∧
    decode (.event 0b1001 Payload.empty) = .error (.unknownTag 9) := by decide

theorem test_decode_calls :
    decode (.call 0b000 []) = .ok .clk ∧ decode (.call 0b001 []) = .ok .reset ∧ decode (.call 0b010 []) = .ok .lpstb ∧
    decode (.call 0b011 [7]) = .ok (.scan 7) ∧ decode (.call 0b100 [0, 4]) = .ok (.frame 0 4) ∧
    decode (.call 0b101 []) = .ok .restore ∧ decode (.call 0b110 []) = .error (.unknownOp 6) ∧
    decode (.call 0b011 []) = .error (.argumentCount 3 0) := by decide

/-- R90, R91: the transaction word `RS=1 RW=0 D=0x31` with `AL = 0` is `WR.CR0 49`; with `AL = 12` it is `WR.CR12 49`. -/
theorem test_decode_depends_on_latch :
    decode ((Request.bus 0b1000110001).toOpWord 0) = .ok (.wrCr0 49) ∧
    decode ((Request.bus 0b1000110001).toOpWord 12) = .ok (.wrCr12 49) := by decide

/-- Words numbered as spec/opcode_table.json numbers them. -/
theorem test_table_words :
    decodeTableWord 16 0x8C00 = some (.wrCr12 0) ∧ decodeTableWord 16 0xDF00 = some .rdCr31 ∧
    decodeTableWord 4 8 = some (.evUpdTrans 0 false) ∧ decodeTableWord 3 4 = some (.frame 0 0) ∧
    decodeTableWord 8 0 = some .clk ∧ decodeTableWord 8 8 = some (.evUpdTrans 0 false) := by decide

/-- The placed word is what the next step runs: a write of CR9, and an event. -/
theorem test_placed_word_runs :
    (match step (State.reset.withFetchWord 16 0x8907) with | .next t => some t.regs.maxRas | _ => none) = some 7 ∧
    (match step (State.reset.withFetchWord 4 6) with | .next t => some t.ctr.lpenLatched | _ => none) = some true := by
  decide

/-! ### The address/status port -/

/-- R121, R94: the worked example, and the corner cases of the two widths. -/
theorem test_sel_masks_index :
    look (.sel 0x4C) chipA (·.regs.al) = some 0x0C ∧ look (.sel 0x2A) chipA (·.regs.al) = some 0x0A ∧
    look (.sel 0xFF) chipA (·.regs.al) = some 0x1F ∧ look (.sel 0xFF) chipB (·.regs.al) = some 0x3F := by decide

/-- R122: right after reset on `CFG_B`, and the worked example; `CFG_A` reads 0. -/
theorem test_rdst :
    look .rdst chipB (·.rdata) = some 0xA0 ∧
    look .rdst (ctr (fun c => { c with lineEnable := true, lpenLatched := true }) chipB) (·.rdata) = some 0xC0 ∧
    look .rdst chipA (·.rdata) = some 0x00 := by decide

/-! ### Data-port writes: the worked examples of R123 to R144 -/

theorem test_wr_cr0 : look (.wrCr0 49) chipA (·.geo.nums.hTotalPx) = some 400 := by decide

theorem test_wr_cr1 : look (.wrCr1 40) chipA (·.geo.nums.maxX) = some 319 := by decide

theorem test_wr_cr2 : look (.wrCr2 42) chipA (·.geo.nums.hsOn) = some 336 := by decide

theorem test_wr_cr3 :
    look (.wrCr3 0x42) chipB (fun s => (s.hsw, s.vsw)) = some (2, 4) ∧
    look (.wrCr3 0x42) chipA (fun s => (s.hsw, s.vsw)) = some (2, 16) := by decide

theorem test_wr_cr4 : look (.wrCr4 0x98) chipB (·.regs.vtotal) = some 24 := by decide

theorem test_wr_cr5 : look (.wrCr5 0xE6) chipB (·.regs.vtotalAdj) = some 6 := by decide

theorem test_wr_cr6 :
    look (.wrCr6 20) (regs (fun r => { r with maxRas := 7 }) chipB) (·.geo.nums.maxY) = some 159 := by decide

theorem test_wr_cr7 :
    look (.wrCr7 22) (regs (fun r => { r with maxRas := 7 }) chipB) (·.geo.nums.vsOn) = some 176 := by decide

theorem test_wr_cr8 : look (.wrCr8 0x04) chipB (fun s => (s.rowCol, s.transp)) = some (true, false) := by decide

theorem test_wr_cr9 : look (.wrCr9 7) chipB (·.ch) = some 8 := by decide

theorem test_wr_cr10 :
    look (.wrCr10 0x46) chipB (fun s => (s.blinkMode, s.curStartRow)) = some (2, 6) := by decide

theorem test_wr_cr11 : look (.wrCr11 0xFF) chipB (·.regs.curEnd) = some 31 := by decide

theorem test_wr_cr12 :
    look (.wrCr12 0xC1) (regs (fun r => { r with dispStart := 0x0010 }) chipB) (·.regs.dispStart) = some 0x0110 := by
  decide

theorem test_wr_cr13 :
    look (.wrCr13 0x40) (regs (fun r => { r with dispStart := 0x0110 }) chipB) (·.regs.dispStart) = some 0x0140 := by
  decide

theorem test_wr_cr14 :
    look (.wrCr14 0x3F) (regs (fun r => { r with cursorAddr := 0x0011 }) chipB) (·.regs.cursorAddr) = some 0x3F11 := by
  decide

theorem test_wr_cr15 : look (.wrCr15 0x11) chipB (·.regs.cursorAddr) = some 0x0011 := by decide

/-- R139, R140: nothing is stored, the latched flag stands. -/
theorem test_wr_cr16_cr17 :
    let s := ctr (fun c => { c with lpenLatched := true }) (regs (fun r => { r with lpenAddr := 0x0013 }) chipB)
    look (.wrCr16 0x3F) s (fun t => (t.regs.lpenAddr, t.ctr.lpenLatched)) = some (0x0013, true) ∧
    look (.wrCr17 0x3F) s (fun t => (t.regs.lpenAddr, t.ctr.lpenLatched)) = some (0x0013, true) := by decide

/-- R141: the worked example (the record of the immediate mode), and no store without transparent mode. -/
theorem test_wr_cr18 :
    look (.wrCr18 0x12) (mode 0xC8 chipB) (fun t => (t.regs.updateAddr, t.trace)) =
      some (0x1200, [.update 0x1200 true]) ∧
    look (.wrCr18 0x12) (mode 0xC8 chipA) (·.regs.updateAddr) = some 0 := by decide

/-- R142: the worked example; in blanking mode the address is stored and nothing is emitted. -/
theorem test_wr_cr19 :
    look (.wrCr19 0x34) (regs (fun r => { r with updateAddr := 0x1200 }) (mode 0xC8 chipB))
      (fun t => (t.regs.updateAddr, t.trace)) = some (0x1234, [.update 0x1234 true]) ∧
    look (.wrCr19 0x34) (mode 0x08 chipB) (fun t => (t.regs.updateAddr, t.trace)) = some (0x0034, []) := by decide

/-- R143: the worked example; R301: without a handler, the fault, with the address already advanced. -/
theorem test_wr_cr31 :
    look (.wrCr31 0x55) (regs (fun r => { r with updateAddr := 0x1235 }) (mode 0xC8 chipB))
      (fun t => (t.regs.updateAddr, t.trace)) = some (0x1236, [.update 0x1236 true]) ∧
    look (.wrCr31 0) (mode 0x88 chipNoHandler) (fun t => (t.fatal, t.regs.updateAddr, t.trace)) =
      some (true, 1, []) := by decide

/-- R144: nothing is stored. -/
theorem test_wr_undef : look (.wrUndef 25 0xFF) chipA (·.regs) = some chipA.regs := by decide

/-! ### Data-port reads -/

/-- R145 to R156, R163, R164, R166: 0x00 whatever the registers hold. -/
theorem test_write_only_reads :
    let s : State := { regs (fun r => { r with htotal := 49, hdisp := 40, updateAddr := 0x1234 }) chipB with
      rdata := 0xFF }
    ([.rdCr0, .rdCr1, .rdCr2, .rdCr3, .rdCr4, .rdCr5, .rdCr6, .rdCr7, .rdCr8, .rdCr9, .rdCr10, .rdCr11, .rdCr18,
      .rdCr19, .rdUndef 40].all fun i => look i s (·.rdata) = some 0) = true := by decide

/-- R157, R158: the worked examples. -/
theorem test_rd_cr12_cr13 :
    let b := regs (fun r => { r with dispStart := 0x0110 }) chipB
    let a := regs (fun r => { r with dispStart := 0x0110 }) chipA
    look .rdCr12 b (·.rdata) = some 0x01 ∧ look .rdCr12 a (·.rdata) = some 0 ∧
    look .rdCr13 b (·.rdata) = some 0x10 ∧ look .rdCr13 a (·.rdata) = some 0 := by decide

/-- R159, R160: the worked examples. -/
theorem test_rd_cr14_cr15 :
    let s := regs (fun r => { r with cursorAddr := 0x3F11 }) chipA
    look .rdCr14 s (·.rdata) = some 0x3F ∧ look .rdCr15 s (·.rdata) = some 0x11 := by decide

/-- R161, R162: the worked examples; either read clears the flag. -/
theorem test_rd_cr16_cr17 :
    let s := ctr (fun c => { c with lpenLatched := true }) (regs (fun r => { r with lpenAddr := 0x0013 }) chipB)
    look .rdCr16 s (fun t => (t.rdata, t.ctr.lpenLatched)) = some (0x00, false) ∧
    look .rdCr17 s (fun t => (t.rdata, t.ctr.lpenLatched)) = some (0x13, false) := by decide

/-- R165 through R272: the blanking request of the worked example; a second request does nothing. -/
theorem test_rd_cr31 :
    look .rdCr31 (at' 100 (mode 0x08 chipB)) (fun t => (t.ctr.updateReady, dueOf .updAdr t)) = some (false, some 104) ∧
    look .rdCr31 (ctr (fun c => { c with updateReady := false }) (at' 100 (mode 0x08 chipB))) (dueOf .updAdr) =
      some none := by decide

/-! ### Events -/

/-- R186: the worked example of step 2. -/
theorem test_ev_line_counters :
    let s := ctr (fun c => { c with ra := 1, lineAddr := 0x10 })
      (regs (fun r => { r with maxRas := 1, hdisp := 3, vtotal := 5 }) chipA)
    look .evLine s (fun t => (t.ctr.ra, t.ctr.lc, t.ctr.lineAddr, t.ctr.cc)) = some (0, 1, 0x13, 0) := by decide

/-- R189, R190: the worked examples of steps 4 and 5, at `now = 30`. -/
theorem test_ev_line_schedule :
    let s := ctr (fun c => { c with lineAddr := 0x10, lineEnable := true, cursorState := true, cc := 5 })
      (regs (fun r => { r with htotal := 5, hdisp := 3, hsyncPos := 4, maxRas := 1, cursorAddr := 0x11, curEnd := 1 })
        (at' 30 chipA))
    look .evLine s (fun t => (dueOf .deOff t, dueOf .curOn t, dueOf .hsOn t, dueOf .line t, t.trace)) =
      some (some 33, some 31, some 34, some 36, [.de true]) := by decide

/-- R192: a level change and its record; on a low level, nothing. -/
theorem test_ev_de_off :
    look .evDeOff (sig (fun g => { g with de := true }) chipB) (fun t => (t.sig.de, t.trace)) = some (false, [.de false]) ∧
    look .evDeOff chipB (·.trace) = some [] := by decide

/-- R193: the worked example, at `now = 34`. -/
theorem test_ev_hs_on :
    look .evHsOn (regs (fun r => { r with syncWidth := 0x21 }) (at' 34 chipB)) (fun t => (t.trace, dueOf .hsOff t)) =
      some ([.hsync true], some 35) := by decide

/-- R194: the worked example: the width counter keeps its count. -/
theorem test_ev_hs_off :
    look .evHsOff (ctr (fun c => { c with hswCtr := 1 }) (sig (fun g => { g with hsync := true }) chipB))
      (fun t => (t.trace, t.ctr.hswCtr)) = some ([.hsync false], 1) := by decide

/-- R195: the worked example, at `now = 31`. -/
theorem test_ev_cur_on :
    look .evCurOn (at' 31 chipB) (fun t => (t.trace, dueOf .curOff t)) = some ([.cursor true], some 32) := by decide

/-- R196: the worked example. -/
theorem test_ev_cur_off :
    look .evCurOff (sig (fun g => { g with cursor := true }) chipB) (·.trace) = some [.cursor false] := by decide

/-- R271: the address is `line_addr + cc` at the moment of the event. -/
theorem test_ev_lpen :
    look .evLpen (ctr (fun c => { c with lineAddr := 0x10, cc := 3 }) chipB)
      (fun t => (t.regs.lpenAddr, t.ctr.lpenLatched)) = some (0x0013, true) := by decide

/-- R275: the worked example, at `now = 104`. -/
theorem test_ev_upd_adr :
    look .evUpdAdr (regs (fun r => { r with updateAddr := 0x01FF, mode := 0x08 }) (at' 104 chipB))
      (fun t => (t.slot .updTrans).map fun x => (x.due, x.payload.addr, x.payload.strobe)) =
      some (some (104, 0x01FF, false)) := by decide

/-- R276: the worked example. -/
theorem test_ev_upd_trans :
    look (.evUpdTrans 0x01FF false)
      (ctr (fun c => { c with updateReady := false }) (regs (fun r => { r with updateAddr := 0x01FF, mode := 0x08 }) chipB))
      (fun t => (t.trace, t.regs.updateAddr, t.ctr.updateReady)) = some ([.update 0x01FF false], 0x0200, true) := by
  decide

/-! ### Pins and host calls -/

/-- R182: the worked example (`cc = 3`, `MA = 0x13`). -/
theorem test_clk_counts :
    look .clk (ctr (fun c => { c with cc := 2, lineAddr := 0x10 }) (at' 7 chipB)) (fun t => (t.ctr.cc, t.ma)) =
      some (3, 0x13) := by decide

/-- R323: the first clock of the unprogrammed chip, on both reference configurations. -/
theorem test_clk_unprogrammed :
    look .clk chipA (·.trace) = some [.originReset, .de true, .de false, .hsync true] ∧
    look .clk chipB (·.trace) = some [.originReset, .vsync true, .hsync true] := by decide

/-- R321: the worked example, at `now = 500`. -/
theorem test_reset :
    look .reset (sig (fun g => { g with de := true, vsync := true }) (regs (fun r => { r with al := 5 }) (at' 500 chipB)))
      (fun t => (t.trace, dueOf .line t, t.regs.al)) = some ([.de false, .vsync false], some 501, 0) := by decide

/-- R270: the worked example, at `now = 92`. -/
theorem test_lpstb : look .lpstb (at' 92 chipB) (dueOf .lpen) = some (some 93) := by decide

/-- The state after a list of requests, if every step answers one. -/
def after (rs : List Request) (s : State) : Option State :=
  match s.issueAll rs with
  | .next t => some t
  | .fault _ => none
  | .refused _ => none

/-- R106: the value is `hi[5:0] :: lo`, so the top two bits of the high byte drop. -/
theorem test_pair_value : pairValue 0x3F 0x11 = 0x3F11 ∧ pairValue 0xFF 0x11 = 0x3F11 ∧ pairValue 0x40 0x80 = 0x0080 := by
  decide

/-- R106, R99: `RP 14` reads what `WP 14, 0x3F11` wrote, and leaves the latch at 15. -/
theorem test_read_pair :
    ((after (reqWP 14 0x3F11) chipB).bind fun s => s.readPair 14).map (fun p => (p.2, p.1.regs.al)) =
      some (0x3F11, 15) := by decide

/-- R106, R190: after the tick of the worked example (`now = 30`, `LINE` due 36) `LINE` is 6 clocks; from power-on it is 1
(R320); a stopped machine has none (log 17). -/
theorem test_line_clocks :
    look .evLine (at' 30 (regs (fun r => { r with htotal := 5, hsyncPos := 4 }) chipA)) (·.lineClocks) = some 6 ∧
    chipB.reqLine = [.call 0 []] ∧ ({ chipB with fatal := true } : State).reqLine = [] := by decide

/-- R106, R190: `LINE` from 4 clocks before a boundary, with `CR.htotal = 5`, ends at the boundary, the next one 6 clocks
ahead. -/
theorem test_line :
    let s := ({ regs (fun r => { r with htotal := 5 }) chipA with sched := { chipA.sched with now := 32 } } :
      State).schedule .line 4
    (after s.reqLine s).map (fun t => (t.sched.now, t.ctr.cc, dueOf .line t)) = some (36, 0, some 42) := by decide

/-- The state of the worked example of R260. -/
def scanState : State :=
  { ctr (fun c => { c with cda := 16, cursorState := true })
      (regs (fun r => { r with hdisp := 3, maxRas := 1, cursorAddr := 17, curEnd := 1 }) chipA) with
    geo := { nums := { hTotalPx := 48, vTotalPx := 5, maxX := 23, maxY := 1, hsOn := 32, hsOff := 40, vsOn := 2,
                       vsOff := 4 }, valid := true } }

/-- R260: the worked example. -/
theorem test_scan :
    look (.scan 1) scanState (fun t => (t.trace, t.ctr.cda)) =
      some ([.row { ma := 16, ra := 1, y := 1, xCount := 3, cursorX := 1, de := true, hbp := 8, vbp := 1 }], 19) := by
  decide

/-- R261: two scanlines from the display start; nothing on an invalid geometry. -/
theorem test_frame :
    look (.frame 0 1) scanState (fun t => (t.trace.length, t.ctr.cda)) = some (2, 3) ∧
    look (.frame 0 1) chipA (·.trace) = some [] := by decide

/-- R243, T44: base program of T44 with `CR1 = CR0 + 1` is valid (against R329, log 15), with one column more it is not
(T45). -/
theorem test_validity_at_last_column :
    let s := regs (fun r => { r with
      htotal := 49, hdisp := 50, hsyncPos := 42, syncWidth := 4, vtotal := 24, vtotalAdj := 6, vdisp := 20,
      vsyncPos := 22, maxRas := 7 }) chipA
    s.deriveGeom.maxX = 399 ∧ s.deriveGeom.isValid = true ∧
    (regs (fun r => { r with hdisp := 51 }) s).deriveGeom.isValid = false := by decide

/-- R246: the record again, and no restart of the line. -/
theorem test_restore :
    look .restore (ctr (fun c => { c with cc := 9 })
      (regs (fun r => { r with htotal := 9, hdisp := 4, hsyncPos := 6, vtotal := 30, vdisp := 25, vsyncPos := 20 }) chipA))
      (fun t => (t.trace, t.ctr.cc, dueOf .line t)) =
      some ([.geom { width := 80, height := 31, minX := 0, maxX := 31, minY := 0, maxY := 24, refresh := 310 }], 9,
        some 1) := by decide

/-! ### Witnesses: values that meet the hypotheses of each statement, clause by clause

A statement whose only hypothesis is `Ready`, or that the machine is running, is met by the power-on state of either
reference configuration. -/

/-- `DecodeInvertsEncode`: the undefined indices at the ends of their ranges, a one-line region, and any other form. -/
theorem witness_DecodeInvertsEncode :
    (Instr.wrUndef 20 0).wf = true ∧ (Instr.wrUndef 63 0xFF).wf = true ∧ (Instr.rdUndef 30).wf = true ∧
    (Instr.rdUndef 32).wf = true ∧ (Instr.frame 0 0).wf = true ∧ (Instr.wrCr31 0xFF).wf = true := by decide

/-- `OnlyUndefinedCodesAreRejected`: each clause at its boundary. -/
theorem witness_OnlyUndefinedCodesAreRejected :
    (Request.call 5 []).wf = true ∧ (Request.call 4 [0, 0]).wf = true ∧ (Request.bus 0).wf = true ∧
    9 ≤ (9 : BitVec 4).toNat ∧ 9 ≤ (15 : BitVec 4).toNat ∧ 6 ≤ (6 : BitVec 3).toNat ∧ 6 ≤ (7 : BitVec 3).toNat ∧
    (5 : BitVec 3).toNat < 6 ∧ (Request.call 5 [0]).wf = false ∧ (Request.call 3 [0, 0]).wf = false := by decide

/-- A chip with one request issued. -/
def withRequest (r : Request) (s : State) : State := { s with inbox := [r] }

/-- A chip in which `T[LPEN]` is due at this instant, and `T[HS_OFF]` too with a later sequence number. -/
def chipDue : State := ((chipB.schedule .lpen 0).schedule .hsOff 0)

/-- A chip stopped by the fault. -/
def chipFatal : State := { chipNoHandler with fatal := true }

/-- `StepRunsTheDecodedOperation`: a request that decodes, in a running and in a stopped machine; a due slot; an empty
list; a request that does not decode. -/
theorem witness_StepRunsTheDecodedOperation :
    (withRequest (.bus 0b1000110001) chipB).quiet = true ∧
    decode ((Request.bus 0b1000110001).toOpWord (withRequest (.bus 0b1000110001) chipB).regs.al) = .ok (.wrCr0 49) ∧
    (withRequest reqRdst chipFatal).fatal = true ∧
    chipDue.fatal = false ∧ chipDue.pickDue.map (·.1) = some .lpen ∧
    decode (.event Tag.lpen.code Payload.empty) = .ok .evLpen ∧
    chipB.inbox = [] ∧ chipB.quiet = true ∧
    decode ((Request.call 6 []).toOpWord 0) = .error (.unknownOp 6) := by decide

/-- `PlacedOperationIsFetchedNext`: a word that decodes, and a slot that is empty, one that is due at this instant, and one
that is not due. -/
theorem witness_PlacedOperationIsFetchedNext :
    chipB.fatal = false ∧ decode (.bus 0x8907) = .ok (.wrCr9 7) ∧ chipB.slot .lpen = none ∧
    chipDue.fatal = false ∧ (chipDue.slot .lpen).map (fun x => decide (x.due ≤ chipDue.sched.now)) = some true ∧
    (chipB.slot .line).map (fun x => decide (chipB.sched.now < x.due)) = some true := by decide

/-- `PickDueTakesTheLeastSequenceNumber`, `RunDueIsTheLoopOfTheRule`: two due slots, of which the earlier scheduled one is
picked; and a quiet state, and a stopped one. -/
theorem witness_PickDueTakesTheLeastSequenceNumber :
    chipDue.pickDue.map (fun p => (p.1, p.2.seq)) = some (.lpen, 0) ∧ dueOf .hsOff chipDue = some 0 ∧
    chipDue.fatal = false ∧ chipB.quiet = true ∧ chipFatal.fatal = true := by decide

/-- `RegisterWritesStoreTheMaskedByte`, `LowAddressByteWrites`, `HighAddressByteWrites`, `LightPenWritesStoreNothing`,
`UndefinedIndexWritesStoreNothing`, `SelLoadsTheMaskedIndex`, `StatusReadReturnsTheThreeFlags`,
`WriteOnlyAndUndefinedReadsReturnZero`, `DisplayStartReadsBackWhereConfigured`, `CursorAddressReadsBack`,
`LightPenReadsClearTheLatch`, `LightPenStrobeOverwrites`, `RestoreResendsTheGeometry`: a running machine between two
operations. -/
theorem witness_Ready : chipA.Ready ∧ chipB.Ready ∧ (mode 0xC8 chipB).Ready ∧ scanState.Ready := by decide

/-- `UpdateAddressWrites`: the three kinds of chip and mode. -/
theorem witness_UpdateAddressWrites :
    chipA.Ready ∧ chipA.cfg.transparent = false ∧ (mode 0x08 chipB).Ready ∧ (mode 0x08 chipB).cfg.transparent = true ∧
    (mode 0x08 chipB).regs.mode &&& 0x88 ≠ 0x88 ∧ (mode 0x88 chipB).Ready ∧
    (mode 0x88 chipB).regs.mode &&& 0x88 = 0x88 ∧ (mode 0x88 chipB).cfg.updHandler = true := by decide

/-- `Cr31IsInertOutsideTransparentMode`: either reason. -/
theorem witness_Cr31IsInertOutsideTransparentMode :
    chipA.Ready ∧ chipA.cfg.transparent = false ∧ (mode 0x80 chipB).Ready ∧
    (mode 0x80 chipB).regs.mode.getLsbD 3 = false := by decide

/-- `Cr31ImmediateUpdate`: with either strobe bit. -/
theorem witness_Cr31ImmediateUpdate :
    (mode 0xC8 chipB).Ready ∧ chipB.cfg.transparent = true ∧ chipB.cfg.updHandler = true ∧
    (mode 0xC8 chipB).regs.mode &&& 0x88 = 0x88 ∧ (mode 0x88 chipB).Ready ∧
    (mode 0x88 chipB).regs.mode &&& 0x88 = 0x88 := by decide

/-- `Cr31BlankingRequest`: a request outstanding; DE high; DE low. -/
theorem witness_Cr31BlankingRequest :
    let w := ctr (fun c => { c with updateReady := false }) (mode 0x08 chipB)
    let h := sig (fun g => { g with de := true }) (mode 0x08 chipB)
    w.Ready ∧ w.cfg.transparent = true ∧ 0 < w.cfg.updDelay ∧ w.regs.mode &&& 0x88 = 0x08 ∧
    h.Ready ∧ h.ctr.updateReady = true ∧ (mode 0x08 chipB).Ready ∧ (mode 0x08 chipB).sig.de = false := by decide

/-- `MissingHandlerRaisesFatal`. -/
theorem witness_MissingHandlerRaisesFatal :
    (mode 0x88 chipNoHandler).fatal = false ∧ (mode 0x88 chipNoHandler).cfg.updHandler = false ∧
    (mode 0x88 chipNoHandler).cfg.transparent = true ∧ (mode 0x88 chipNoHandler).regs.mode &&& 0x88 = 0x88 := by decide

/-- `FatalIsAbsorbing`: a read and an operation that is not a read. -/
theorem witness_FatalIsAbsorbing :
    chipFatal.fatal = true ∧ Instr.rdCr31.isRead = true ∧ Instr.clk.isRead = false := by decide

/-- `RecomputeRestartsTheLineOnlyOnAChange`: the cached values, and values that differ, restoring or not. -/
theorem witness_RecomputeRestartsTheLineOnlyOnAChange :
    let c : State := { chipB with geo := { nums := chipB.deriveGeom, valid := false } }
    c.deriveGeom = c.geo.nums ∧ chipB.deriveGeom ≠ chipB.geo.nums := by decide

/-- `ValidityOfDerivedGeometry`: a well-formed configuration; a valid geometry at the ends of its ranges, and one that is
not. -/
theorem witness_ValidityOfDerivedGeometry :
    let v := regs (fun r => { r with htotal := 3, hdisp := 4, hsyncPos := 3, vdisp := 1 }) chipB
    v.cfg.wf = true ∧ v.deriveGeom.isValid = true ∧ chipB.cfg.wf = true ∧ chipB.deriveGeom.isValid = false := by decide

/-- `SetDeCancelsOrStartsTheUpdateTimer`: both cases of both levels. -/
theorem witness_SetDeCancelsOrStartsTheUpdateTimer :
    let h := sig (fun g => { g with de := true }) (ctr (fun c => { c with updateReady := false }) chipB)
    chipB.sig.de = false ∧ h.sig.de ≠ false ∧ h.ctr.updateReady = false ∧ h.cfg.transparent = true := by decide

/-- `LineTickCounters`, `LineTickLevelsAndRecords`, `LineTickSlots`: a line that is displayed, on which DE rises, with a
cursor and without one; one that is not displayed; one on which DE falls with an update outstanding. -/
theorem witness_LineTick :
    let d := ctr (fun c => { c with lineEnable := true, cursorState := true })
      (regs (fun r => { r with hdisp := 3, maxRas := 1, curEnd := 1 }) chipB)
    let e := ctr (fun c => { c with updateReady := false }) (sig (fun g => { g with de := true })
      (regs (fun r => { r with vtotal := 3 }) chipB))
    chipB.fatal = false ∧ look .evLine d (fun t => (t.ctr.lineEnable, t.sig.de)) = some (true, true) ∧
    look .evLine d (fun t => t.cursorVisible t.ctr.ra.toNat t.ctr.lineAddr) = some true ∧
    look .evLine chipA (fun t => t.cursorVisible t.ctr.ra.toNat t.ctr.lineAddr) = some false ∧
    look .evLine e (fun t => (t.ctr.lineEnable, t.sig.de, dueOf .updAdr t)) = some (false, false, some 4) := by decide

/-- `VsyncCompareIsMetAfterVswTicks`: counts below a width, at the ends of the range. -/
theorem witness_VsyncCompareIsMetAfterVswTicks :
    0 < 15 ∧ 15 < chipA.vsw ∧ 1 < (regs (fun r => { r with syncWidth := 0x20 }) chipB).vsw := by decide

/-- `DeOffLowersDe`, `HsOnRaisesHsyncForItsWidth`, `HsOffLowersHsync`, `CursorPulseIsOneClockWide`,
`LightPenEventLatchesTheAddress`, `UpdateOneShots`, `ClkCountsThenFires`, `ResetGivesThePowerOnBanks`: a running machine; DE
low and high; a handler bound; nothing due after the count. -/
theorem witness_Live :
    chipB.fatal = false ∧ chipB.sig.de = false ∧ (sig (fun g => { g with de := true }) chipB).sig.de = true ∧
    chipB.cfg.updHandler = true ∧ (at' 7 chipB).tick.quiet = true := by decide

/-- `CursorVisibleRows`: a plain range, a whole cell, and a range that wraps. -/
theorem witness_CursorVisibleRows :
    let s := ctr (fun c => { c with cursorState := true })
      (regs (fun r => { r with hdisp := 1, maxRas := 7, curStart := 2, curEnd := 5 }) chipA)
    let whole := regs (fun r => { r with curEnd := 8 }) s
    let wrap := regs (fun r => { r with curStart := 6, curEnd := 2 }) s
    s.cursorVisible 2 0 = true ∧ s.ch = 8 ∧ whole.cursorVisible 0 0 = true ∧ wrap.cursorVisible 2 0 = true ∧
    wrap.cfg.cursorWrap = true ∧ wrap.cursorVisible 3 0 = false := by decide

/-- `ScanEmitsOneRow`: a visible cursor in linear mode, a hidden one, and row and column mode. -/
theorem witness_ScanEmitsOneRow :
    scanState.Ready ∧ scanState.regs.mode.getLsbD 2 = false ∧
    scanState.cursorVisible (1 % scanState.ch) scanState.ctr.cda = true ∧ chipA.Ready ∧
    chipA.cursorVisible (1 % chipA.ch) chipA.ctr.cda = false ∧ (mode 0x04 chipB).Ready ∧
    (mode 0x04 chipB).regs.mode.getLsbD 2 = true := by decide

/-- `FrameEmitsItsRowsInOrder`: a valid geometry with a region from 0, an invalid one, and an empty region. -/
theorem witness_FrameEmitsItsRowsInOrder :
    scanState.Ready ∧ scanState.geo.valid = true ∧ 0 ≤ 1 ∧ scanState.regs.mode.getLsbD 2 = false ∧
    chipA.Ready ∧ chipA.geo.valid = false ∧ 0 < 1 := by decide

/-- A chip in the middle of a displayed line: DE high and its fall ahead, HSYNC high with 3 of its 5 clocks gone, and a
request issued. -/
def midLine : State :=
  { chipB with
    regs := { chipB.regs with htotal := 49, hdisp := 40, hsyncPos := 42 }
    ctr := { chipB.ctr with cc := 10, lineEnable := true, hswCtr := 3, cursorState := true }
    sig := { chipB.sig with de := true, hsync := true }
    sched :=
      { now := 60
        seq := 9
        slots :=
          { Slots.empty with
            line := some { due := 100, seq := 8, payload := Payload.empty }
            deOff := some { due := 90, seq := 6, payload := Payload.empty }
            hsOff := some { due := 62, seq := 5, payload := Payload.empty } } }
    inbox := [.call 0 []] }

/-- `EveryStepKeepsTheInvariant`: a state that meets the invariant and has a next state. -/
theorem witness_EveryStepKeepsTheInvariant : Inv midLine ∧ ∃ t, step midLine = .next t := by
  refine ⟨?_, ?_⟩
  · constructor
    case noSlotPast => intro t; cases t <;> decide
    all_goals decide
  · exact ⟨_, rfl⟩

/-- `OnlyClkAdvancesTime`, `RecordsTrackTheLevels`: an operation of each kind has a next state. -/
theorem witness_exec_next :
    (∃ t, exec .clk midLine = .next t) ∧ (∃ t, exec (.wrCr0 1) midLine = .next t) ∧
    (∃ t, exec .evLine midLine = .next t) ∧ ∃ t, exec (.frame 0 4) midLine = .next t :=
  ⟨⟨_, rfl⟩, ⟨_, rfl⟩, ⟨_, rfl⟩, ⟨_, rfl⟩⟩

/-- `EngineStandsStillBetweenClocks`: a write that restarts the line. -/
theorem witness_EngineStandsStillBetweenClocks :
    midLine.Ready ∧ (Instr.wrCr0 1).isEvent = false ∧ Instr.wrCr0 1 ≠ .clk ∧ Instr.wrCr0 1 ≠ .reset ∧
    (next (.wrCr0 1) midLine).isSome = true := by decide

/-- `BridgeIgnoresTheEngine`: two states that differ in the engine alone. -/
theorem witness_BridgeIgnoresTheEngine :
    let a := midLine
    let b : State := { midLine with sig := Signals.reset, ctr := { midLine.ctr with cc := 0, ra := 7 } }
    a.Ready ∧ b.Ready ∧ a.cfg = b.cfg ∧ a.regs = b.regs ∧ a.geo = b.geo ∧ a.ctr.cda = b.ctr.cda ∧
    a.ctr.cursorState = b.ctr.cursorState ∧ a ≠ b := by decide

/-- `ConstructionRefusesIllFormed`: a well-formed configuration at the least values, and one that fails each kind of
clause. -/
theorem witness_ConstructionRefusesIllFormed :
    let c : Config := { Config.cfgA with hpix := 1, updDelay := 1 }
    (1 ≤ c.adjNonint ∧ 1 ≤ c.adjInt ∧ 1 ≤ c.hpix ∧ 1 ≤ c.updDelay ∧ (c.transparent = true → c.updHandler = true)) ∧
    ¬ 1 ≤ ({ c with updDelay := 0 } : Config).updDelay ∧
    ¬ (({ Config.cfgB with updHandler := false } : Config).transparent = true →
      ({ Config.cfgB with updHandler := false } : Config).updHandler = true) := by decide

end Sys2Proof.Tests
end

/-! # Proofs: access to the registers through the bus

The rules for the two ports that the statements about bus accesses share, and the statements about the address latch, the
low address bytes, the display start and the light-pen address. -/

namespace Sys2Proof

/-! ### Decoding by port and direction (R91, R107) -/

theorem decode_select (al : Index) (d : Byte) : decode (.bus (busKey false false al d)) = .ok (.sel d) := by
  simp [decode_bus, decodeBus]

theorem decode_dataWrite (al : Index) (d : Byte) :
    decode (.bus (busKey true false al d)) = .ok (decodeWrite al d) := by
  rw [decode_bus, decodeBus_write]

theorem decode_dataRead (al : Index) (d : Byte) :
    decode (.bus (busKey true true al d)) = .ok (decodeRead al) := by
  rw [decode_bus, decodeBus_read]

end Sys2Proof

namespace Sys2Proof.Machine

variable {s : State}

/-! ### Bus accesses of a running machine in which nothing is due (R120) -/

/-- `run_due` adds nothing to an operation that leaves the scheduler of a quiet state alone. -/
theorem runDue_of_sched_eq {t : State} (hq : s.quiet = true) (hs : t.sched = s.sched) : t.runDue = t :=
  runDue_of_quiet ((quiet_congr hs).trans hq)

/-- `SEL` loads the latch and runs what is due, with no recompute (R121). -/
theorem exec_sel_of_live (hl : s.fatal = false) (d : Byte) :
    exec (.sel d) s = .next (s.updRegs fun r => { r with al := latchIndex s.cfg d }).runDue := by
  simp [exec, execSel, State.unlessFatal, hl]

/-- A data-port write that stores in the register bank ends with the recompute alone. -/
theorem busWrite_updRegs_of_ready (h : s.Ready) (f : RegisterBank → RegisterBank) :
    busWrite (fun u => u.updRegs f) s = .next ((s.updRegs f).recompute false) := by
  obtain ⟨hl, hq⟩ := h
  have hq' : (s.updRegs f).quiet = true := (quiet_congr (updRegs_sched s f)).trans hq
  rw [busWrite_of_live hl, closeWrite_of_quiet (s := s.updRegs f) hl hq']

/-- A data-port write that stores nothing is the recompute. -/
theorem busWrite_id_of_ready (h : s.Ready) : busWrite id s = .next (s.recompute false) :=
  busWrite_updRegs_of_ready h id

/-- A bus read whose side effect leaves the scheduler alone returns its byte and does nothing else. -/
theorem busRead_of_ready (h : s.Ready) (v : State → Byte) {f : State → State} (hf : (f s).sched = s.sched) :
    busRead v f s = .next { f s with rdata := v s } := by
  obtain ⟨hl, hq⟩ := h
  rw [busRead_of_live hl]
  exact congrArg _ (runDue_of_sched_eq hq hf)

/-! ### What the recompute leaves, and a bit of the status byte -/

/-- The recompute changes no counter but `cc` (R245). -/
theorem recompute_ctr_eq (s : State) (r : Bool) :
    (s.recompute r).ctr = { s.ctr with cc := (s.recompute r).ctr.cc } := by
  rcases recompute_cases s r with ⟨_, _, e⟩ | ⟨_, e⟩ | ⟨_, _, e⟩ <;> rw [e]
  · simp
  · simp

@[simp] theorem recompute_lpenLatched (s : State) (r : Bool) :
    (s.recompute r).ctr.lpenLatched = s.ctr.lpenLatched := by
  rw [recompute_ctr_eq]

/-- Status bit 6 is `lpen_latched` where the variant has it (R98). -/
theorem statusByte_bit6 (s : State) :
    s.statusByte.getLsbD 6 = (s.cfg.statusD6 && s.ctr.lpenLatched) := by
  have hbits : ∀ b7 b6 b5 : Bool,
      (BitVec.ofBool b7 ++ BitVec.ofBool b6 ++ BitVec.ofBool b5 ++ (0 : BitVec 5)).getLsbD 6 = b6 := by decide
  exact hbits _ _ _

theorem clearLpenLatched_statusByte_bit6 (s : State) : s.clearLpenLatched.statusByte.getLsbD 6 = false := by
  rw [statusByte_bit6, clearLpenLatched_ctr, Bool.and_false]

/-! ### The statements -/

/-- Settles O22: the port decides the key, `latchIndex_eq` the value. -/
theorem selLoadsTheMaskedIndex : Obligations.SelLoadsTheMaskedIndex := by
  intro s al d ⟨hl, hq⟩
  refine ⟨decode_select al d, ?_⟩
  rw [← latchIndex_eq]
  exact (exec_sel_of_live hl d).trans (congrArg _ (runDue_of_sched_eq hq (updRegs_sched s _)))

/-- Settles O12: both writes store in the register bank, and `setLow_eq` gives the stored pair. -/
theorem lowAddressByteWrites : Obligations.LowAddressByteWrites := by
  intro s d h
  refine ⟨decode_dataWrite 13 d, decode_dataWrite 15 d, ?_, ?_⟩
  · rw [← setLow_eq]
    exact busWrite_updRegs_of_ready h fun r => { r with dispStart := setLow r.dispStart d }
  · rw [← setLow_eq]
    exact busWrite_updRegs_of_ready h fun r => { r with cursorAddr := setLow r.cursorAddr d }

/-- Settles O14: nothing is stored, and the recompute keeps the registers and `lpen_latched`. -/
theorem lightPenWritesStoreNothing : Obligations.LightPenWritesStoreNothing := by
  intro s d h
  exact ⟨decode_dataWrite 16 d, decode_dataWrite 17 d, s.recompute false, busWrite_id_of_ready h,
    busWrite_id_of_ready h, rfl, recompute_regs s false, recompute_lpenLatched s false⟩

/-- Settles O25: the reads have no side effect; `highByte_eq` and `lowByte_eq` give their bytes. -/
theorem displayStartReadsBackWhereConfigured : Obligations.DisplayStartReadsBackWhereConfigured := by
  intro s d h
  refine ⟨decode_dataRead 12 d, decode_dataRead 13 d, ?_, ?_⟩
  · rw [← highByte_eq]
    exact busRead_of_ready h (fun u => if u.cfg.startReadback then highByte u.regs.dispStart else 0) (f := id) rfl
  · rw [← lowByte_eq]
    exact busRead_of_ready h (fun u => if u.cfg.startReadback then lowByte u.regs.dispStart else 0) (f := id) rfl

/-- Settles O27: the side effect of both reads is `clearLpenLatched`, after which nothing is due. -/
theorem lightPenReadsClearTheLatch : Obligations.LightPenReadsClearTheLatch := by
  intro s d h
  have hread := fun v => busRead_of_ready h v (clearLpenLatched_sched s)
  refine ⟨decode_dataRead 16 d, decode_dataRead 17 d, ⟨?_, ?_⟩, ⟨?_, ?_⟩⟩
  · rw [← highByte_eq]
    exact hread fun u => highByte u.regs.lpenAddr
  · exact clearLpenLatched_statusByte_bit6 s
  · rw [← lowByte_eq]
    exact hread fun u => lowByte u.regs.lpenAddr
  · exact clearLpenLatched_statusByte_bit6 s

end Sys2Proof.Machine

/-! # Proofs: the timing engine, the cursor pulse

What a handler does in a running machine, the next state of a set of CURSOR in one closed form, and the statement about the
one-clock pulse. -/

namespace Sys2Proof.Machine

variable {s : State}

/-- A running machine is not held by the fault (R302). -/
theorem unlessFatal_of_live (hl : s.fatal = false) (f : State → State) : s.unlessFatal f = f s := by
  simp [State.unlessFatal, hl]

/-- `EV.CUR_ON` of a running machine is its handler (R195). -/
theorem exec_evCurOn_of_live (hl : s.fatal = false) : exec .evCurOn s = .next (evCurOn s) :=
  congrArg _ (unlessFatal_of_live hl evCurOn)

/-- `EV.CUR_OFF` of a running machine is its handler (R196). -/
theorem exec_evCurOff_of_live (hl : s.fatal = false) : exec .evCurOff s = .next (evCurOff s) :=
  congrArg _ (unlessFatal_of_live hl evCurOff)

/-- `set_cur` (R222) in one form for both cases: the level is written, and a record is appended only on a change. -/
theorem setCur_eq (s : State) (v : Bool) :
    s.setCur v = { s with
      sig := { s.sig with cursor := v }
      trace := s.trace ++ (if s.sig.cursor = v then [] else [.cursor v]) } := by
  rcases setCur_cases s v with ⟨h, e⟩ | ⟨h, e⟩
  · rw [e, if_pos h, List.append_nil, ← h]
  · rw [e, if_neg h]

/-- A set to low appends its record exactly when CURSOR was high. -/
theorem setCur_false_eq (s : State) :
    s.setCur false = { s with
      sig := { s.sig with cursor := false }
      trace := s.trace ++ (if s.sig.cursor then [.cursor false] else []) } := by
  have flip : (if s.sig.cursor = false then [] else [Output.cursor false]) =
      if s.sig.cursor then [.cursor false] else [] := by
    cases s.sig.cursor <;> rfl
  rw [setCur_eq, flip]

/-- Settles O40: each handler is a set of CURSOR, which `setCur_eq` gives, and the first schedules the fall besides. -/
theorem cursorPulseIsOneClockWide : Obligations.CursorPulseIsOneClockWide := by
  intro s p hl
  refine ⟨rfl, rfl, ?_, ?_⟩
  · rw [exec_evCurOn_of_live hl, evCurOn_eq, setCur_eq]
  · rw [exec_evCurOff_of_live hl, evCurOff, setCur_false_eq]

end Sys2Proof.Machine

/-! # Proofs: the timing engine, the fall of display enable

The hook of `set_de` with DE already low and the fall of DE, each in one closed form, and the statement about
`EV.DE_OFF`. -/

namespace Sys2Proof.Machine

variable {s : State}

/-- `EV.DE_OFF` of a running machine is its handler (R192). -/
theorem exec_evDeOff_of_live (hl : s.fatal = false) : exec .evDeOff s = .next (s.setDe false) :=
  congrArg _ (unlessFatal_of_live hl evDeOff)

/-- The update-address timer waits for DE to be low; then it starts on a transparent variant alone (R274). -/
theorem updAdrTimer_of_deLow (h : s.sig.de = false) :
    s.updAdrTimer = if s.cfg.transparent = true then s.schedule .updAdr s.cfg.updDelay else s := by
  rcases updAdrTimer_cases s with ⟨hde | htr, e⟩ | ⟨_, htr, e⟩
  · rw [h] at hde
    cases hde
  · rw [e, htr, if_neg Bool.false_ne_true]
  · rw [e, if_pos htr]

/-- Once the level is low, the hook of a fall writes the scheduler alone (R223). -/
theorem deHook_false_of_deLow (h : s.sig.de = false) :
    s.deHook false = { s with
      sched := if s.ctr.updateReady = false ∧ s.cfg.transparent = true then
          (s.schedule .updAdr s.cfg.updDelay).sched
        else s.sched } := by
  rcases deHook_cases s false with ⟨hv, _⟩ | ⟨_, hr, e⟩ | ⟨_, hr, e⟩
  · cases hv
  · rw [e, updAdrTimer_of_deLow h]
    cases htr : s.cfg.transparent
    · simp
    · simp only [hr, and_self, if_true]
      rfl
  · simp [e, hr]

/-- A set of DE to the level it has does nothing (R223). -/
theorem setDe_of_level {v : Bool} (h : s.sig.de = v) : s.setDe v = s := by
  rcases setDe_cases s v with ⟨_, e⟩ | ⟨hne, _⟩
  · exact e
  · exact absurd h hne

/-- A set to low of a high DE (R223, R274): the level, the record, and the timer for a request outstanding. -/
theorem setDe_false_of_deHigh (h : s.sig.de = true) :
    s.setDe false = { s with
      sig := { s.sig with de := false }
      trace := s.trace ++ [.de false]
      sched := if s.ctr.updateReady = false ∧ s.cfg.transparent = true then
          (s.schedule .updAdr s.cfg.updDelay).sched
        else s.sched } := by
  rcases setDe_cases s false with ⟨hlow, _⟩ | ⟨_, e⟩
  · rw [h] at hlow
    cases hlow
  · rw [e, deHook_false_of_deLow (s := { s with sig := { s.sig with de := false } }) rfl]
    rfl

/-- Settles O37: the handler is a set of DE to low, `setDe_of_level` on that level and else `setDe_false_of_deHigh`. -/
theorem deOffLowersDe : Obligations.DeOffLowersDe := by
  intro s p hl
  refine ⟨rfl, fun hlow => ?_, fun hhigh => ?_⟩
  · rw [exec_evDeOff_of_live hl, setDe_of_level hlow]
  · rw [exec_evDeOff_of_live hl, setDe_false_of_deHigh hhigh]

end Sys2Proof.Machine

/-! # Proofs: the encoding

What the two selections of the decoder do with an undefined index and what they keep of the index and the byte; the calls
that R104 defines and the rest; and the statements about the encoding. -/

namespace Sys2Proof

/-! ### The selection by the index (R93, R101) -/

theorem undefinedIndex_iff (al : Index) : undefinedIndex al = true ↔ 20 ≤ al.toNat ∧ al.toNat ≠ 31 := by
  simp [undefinedIndex]

theorem decodeWrite_of_undefined {al : Index} (h : undefinedIndex al = true) (d : Byte) :
    decodeWrite al d = .wrUndef al d := by
  rw [undefinedIndex_iff] at h
  unfold decodeWrite
  split
  case h_22 => rfl
  all_goals omega

theorem decodeRead_of_undefined {al : Index} (h : undefinedIndex al = true) : decodeRead al = .rdUndef al := by
  rw [undefinedIndex_iff] at h
  unfold decodeRead
  split
  case h_22 => rfl
  all_goals omega

/-- A defined index is one of the twenty-one of the register map. -/
theorem defined_index_cases {al : Index} (h : undefinedIndex al = false) :
    ∃ n, (n < 20 ∨ n = 31) ∧ al = BitVec.ofNat 6 n := by
  refine ⟨al.toNat, ?_, by simp⟩
  have hn := (undefinedIndex_iff al).not.1 (by simp [h])
  omega

/-- The selected write carries its index and its byte in its word. -/
theorem encode_decodeWrite (al : Index) (d : Byte) :
    (decodeWrite al d).wf = true ∧ encode (decodeWrite al d) = writeWord al d := by
  cases h : undefinedIndex al with
  | true =>
    rw [decodeWrite_of_undefined h]
    exact ⟨h, rfl⟩
  | false =>
    obtain ⟨n, hn | rfl, rfl⟩ := defined_index_cases h
    · interval_cases n <;> exact ⟨rfl, rfl⟩
    · exact ⟨rfl, rfl⟩

/-- The selected read carries its index in its word. -/
theorem encode_decodeRead (al : Index) :
    (decodeRead al).wf = true ∧ encode (decodeRead al) = readWord al := by
  cases h : undefinedIndex al with
  | true =>
    rw [decodeRead_of_undefined h]
    exact ⟨h, rfl⟩
  | false =>
    obtain ⟨n, hn | rfl, rfl⟩ := defined_index_cases h
    · interval_cases n <;> exact ⟨rfl, rfl⟩
    · exact ⟨rfl, rfl⟩

/-! ### Calls (R104) -/

/-- A call that R104 defines decodes. -/
theorem decodeCall_of_wf {c : BitVec 3} {a : List Nat} (h : (Request.call c a).wf = true) :
    ∃ i, decodeCall c a = .ok i := by
  have hc : c.toNat < 8 := c.isLt
  unfold decodeCall
  rcases a with _ | ⟨y, _ | ⟨y1, _ | ⟨y2, a⟩⟩⟩ <;>
    (interval_cases hn : c.toNat <;> simp [Request.wf, hn] at h ⊢)

/-- A call with a code of R104 and another number of arguments is rejected for that number. -/
theorem decodeCall_of_not_wf {c : BitVec 3} {a : List Nat} (hc : c.toNat < 6) (h : (Request.call c a).wf = false) :
    decodeCall c a = .error (.argumentCount c a.length) := by
  unfold decodeCall
  rcases a with _ | ⟨y, _ | ⟨y1, _ | ⟨y2, a⟩⟩⟩ <;>
    (interval_cases hn : c.toNat <;> simp [Request.wf, hn] at h ⊢)

theorem decodeCall_of_unknownOp {c : BitVec 3} (a : List Nat) (hc : 6 ≤ c.toNat) :
    decodeCall c a = .error (.unknownOp c) := by
  have hlt : c.toNat < 8 := c.isLt
  unfold decodeCall
  interval_cases hn : c.toNat <;> simp

theorem decodeEvent_of_unknownTag {c : BitVec 4} (p : Payload) (hc : 9 ≤ c.toNat) :
    decodeEvent c p = .error (.unknownTag c) := by
  unfold decodeEvent
  split
  case h_10 => rfl
  all_goals omega

/-! ### The statements -/

/-- Settles O1: a bus word decodes by its port, direction and index (`decode_select`, `decode_dataWrite`,
`decode_dataRead`), an undefined index by the fallback; the words of events and calls are the decoder's own. -/
theorem decodeInvertsEncode : Obligations.DecodeInvertsEncode := by
  intro i h
  cases i
  case sel d => exact decode_select 0 d
  case rdst => rfl
  case wrUndef al d => exact (decode_dataWrite al d).trans (congrArg _ (decodeWrite_of_undefined h d))
  case rdUndef al => exact (decode_dataRead al 0).trans (congrArg _ (decodeRead_of_undefined h))
  case wrCr0 d | wrCr1 d | wrCr2 d | wrCr3 d | wrCr4 d | wrCr5 d | wrCr6 d | wrCr7 d | wrCr8 d | wrCr9 d | wrCr10 d
      | wrCr11 d | wrCr12 d | wrCr13 d | wrCr14 d | wrCr15 d | wrCr16 d | wrCr17 d | wrCr18 d | wrCr19 d | wrCr31 d =>
    exact decode_dataWrite _ d
  case rdCr0 | rdCr1 | rdCr2 | rdCr3 | rdCr4 | rdCr5 | rdCr6 | rdCr7 | rdCr8 | rdCr9 | rdCr10 | rdCr11 | rdCr12 | rdCr13
      | rdCr14 | rdCr15 | rdCr16 | rdCr17 | rdCr18 | rdCr19 | rdCr31 =>
    exact decode_dataRead _ 0
  all_goals rfl

/-- Settles O2, by the port and the direction: the two selections keep index and byte. -/
theorem encodeRecoversTheKey : Obligations.EncodeRecoversTheKey := by
  intro k
  unfold decodeBus
  cases keyRs k <;> cases keyRw k
  · exact ⟨rfl, rfl⟩
  · exact ⟨rfl, rfl⟩
  · exact encode_decodeWrite (keyAl k) (keyD k)
  · exact encode_decodeRead (keyAl k)

/-- Settles O3: each word is evaluated by the decoder. -/
theorem specWordsDecode : Obligations.SpecWordsDecode := by
  refine ⟨?_, ?_, ?_, ?_, ?_, ?_, ?_, ?_, ?_, ?_, ?_, ?_, ?_⟩ <;> rfl

/-- Settles O4: a bus word always decodes, and the codes and counts of R104 decide the rest. -/
theorem onlyUndefinedCodesAreRejected : Obligations.OnlyUndefinedCodesAreRejected := by
  refine ⟨fun r al h => ?_, fun c p hc => decodeEvent_of_unknownTag p hc, fun c a hc => decodeCall_of_unknownOp a hc,
    fun c a hc h => decodeCall_of_not_wf hc h⟩
  cases r with
  | bus w => exact ⟨_, decode_bus _⟩
  | call c a => exact decodeCall_of_wf h

end Sys2Proof

/-! # Proofs: operands, signals and sub-timers

The operand forms that the statements about events write as arithmetic, the setters in closed form, and the statements
about the setters, the sub-timers, the widths of the two sync pulses and the cursor. -/

namespace Sys2Proof.Machine

variable {s : State}

/-! ### Operands as arithmetic (R95 to R97, R197) -/

theorem add_one_eq_ofNat {w : Nat} (x : BitVec w) : x + 1 = BitVec.ofNat w (x.toNat + 1) := by
  rw [BitVec.ofNat_add, BitVec.ofNat_toNat, BitVec.setWidth_eq]
  rfl

/-- An address advanced by a count of characters (R59, R186, R260). -/
theorem add_setWidth_eq_ofNat (x : Addr) (b : Byte) : x + b.setWidth 14 = BitVec.ofNat 14 (x.toNat + b.toNat) := by
  rw [BitVec.ofNat_add, BitVec.ofNat_toNat, BitVec.setWidth_eq, BitVec.ofNat_toNat]

theorem widthField_eq (f : BitVec 4) : widthField f = if f.toNat = 0 then 16 else f.toNat := by
  revert f
  decide

theorem toNat_lowNibble (b : Byte) : (b.extractLsb' 0 4).toNat = b.toNat % 16 := by
  rw [BitVec.extractLsb'_toNat, Nat.shiftRight_zero]

theorem highNibble_eq (b : Byte) : b.extractLsb' 4 4 = BitVec.ofNat 4 (b.toNat / 16) := by
  apply BitVec.eq_of_toNat_eq
  rw [BitVec.extractLsb'_toNat, Nat.shiftRight_eq_div_pow, BitVec.toNat_ofNat]

theorem toNat_highNibble (b : Byte) : (b.extractLsb' 4 4).toNat = b.toNat / 16 := by
  have hb := b.isLt
  rw [highNibble_eq, BitVec.toNat_ofNat]
  omega

/-- The HSYNC width (R95). -/
theorem hsw_eq (s : State) :
    s.hsw = if s.regs.syncWidth.toNat % 16 = 0 then 16 else s.regs.syncWidth.toNat % 16 := by
  rw [State.hsw, widthField_eq, toNat_lowNibble]

/-- The VSYNC width (R95, conflict C3). -/
theorem vsw_eq (s : State) :
    s.vsw =
      if s.cfg.vswField = true ∧ s.regs.syncWidth.toNat / 16 ≠ 0 then s.regs.syncWidth.toNat / 16 else 16 := by
  rw [State.vsw, widthField_eq, toNat_highNibble]
  cases s.cfg.vswField
  · simp
  · by_cases h : s.regs.syncWidth.toNat / 16 = 0 <;> simp [h]

theorem vswCmp_eq (s : State) :
    s.vswCmp = if s.cfg.vswField then BitVec.ofNat 4 (s.regs.syncWidth.toNat / 16) else 0 := by
  rw [State.vswCmp, highNibble_eq]

theorem vsw_bounds (s : State) : 1 ≤ s.vsw ∧ s.vsw ≤ 16 := by
  unfold State.vsw
  split
  · exact widthField_bounds _
  · exact ⟨by decide, le_rfl⟩

/-- The compare value is the width modulo 16: the field itself, and 0 for a width of 16. -/
theorem toNat_vswCmp (s : State) : s.vswCmp.toNat = s.vsw % 16 := by
  have h16 := toNat_highNibble s.regs.syncWidth
  have hb := s.regs.syncWidth.isLt
  rw [vsw_eq, State.vswCmp]
  cases s.cfg.vswField
  · simp
  · simp only [if_true, h16, true_and]
    split <;> omega

theorem curStartRow_eq (s : State) : s.curStartRow = s.regs.curStart.toNat % 32 := by
  rw [State.curStartRow, BitVec.extractLsb'_toNat, Nat.shiftRight_zero]

theorem toNat_blinkMode (s : State) : s.blinkMode.toNat = s.regs.curStart.toNat / 32 := by
  have hb := s.regs.curStart.isLt
  rw [State.blinkMode, BitVec.extractLsb'_toNat, Nat.shiftRight_eq_div_pow]
  omega

theorem tPhi2_iff (s : State) : s.tPhi2 = true ↔ s.regs.mode &&& 0x88 = 0x88 := beq_iff_eq

theorem tBlank_iff (s : State) : s.tBlank = true ↔ s.regs.mode &&& 0x88 = 0x08 := beq_iff_eq

/-! ### The setters in closed form (R220 to R223) -/

/-- `set_hsync`: the level is written, and a record is appended only on a change. -/
theorem setHsync_eq (s : State) (v : Bool) :
    s.setHsync v = { s with
      sig := { s.sig with hsync := v }
      trace := s.trace ++ (if s.sig.hsync = v then [] else [.hsync v]) } := by
  rcases setHsync_cases s v with ⟨h, e⟩ | ⟨h, e⟩
  · rw [e, if_pos h, List.append_nil, ← h]
  · rw [e, if_neg h]

/-- `set_vsync`: the level is written, and a record is appended only on a change. -/
theorem setVsync_eq (s : State) (v : Bool) :
    s.setVsync v = { s with
      sig := { s.sig with vsync := v }
      trace := s.trace ++ (if s.sig.vsync = v then [] else [.vsync v]) } := by
  rcases setVsync_cases s v with ⟨h, e⟩ | ⟨h, e⟩
  · rw [e, if_pos h, List.append_nil, ← h]
  · rw [e, if_neg h]

/-- A record of a level that was low or high, by the level: the two ways of writing it. -/
theorem ite_level_false (b : Bool) (l : List Output) :
    (if b = false then [] else l) = if b then l else [] := by
  cases b <;> rfl

/-- The scheduler after a set of DE (R223, R274): as it was on the present level; else the rise has cancelled the
update-address timer, and the fall has started it for a request outstanding on a transparent variant. -/
def State.deSched (s : State) (v : Bool) : Sched :=
  if s.sig.de = v then s.sched
  else if v then (s.cancel .updAdr).sched
  else if s.ctr.updateReady = false ∧ s.cfg.transparent = true then (s.schedule .updAdr s.cfg.updDelay).sched
  else s.sched

/-- `set_de`: the level is written, a record is appended only on a change, and the hook has moved the scheduler. -/
theorem setDe_eq (s : State) (v : Bool) :
    s.setDe v = { s with
      sig := { s.sig with de := v }
      trace := s.trace ++ (if s.sig.de = v then [] else [.de v])
      sched := s.deSched v } := by
  by_cases h : s.sig.de = v
  · rw [setDe_of_level h, State.deSched, if_pos h, if_pos h, List.append_nil, ← h]
  · cases v
    · rw [Bool.not_eq_false] at h
      rw [setDe_false_of_deHigh h]
      simp [State.deSched, h]
    · rcases setDe_cases s true with ⟨hv, _⟩ | ⟨_, e⟩
      · exact absurd hv h
      · rw [e]
        simp only [State.deSched, if_neg h]
        rfl

/-- Settles O31. -/
theorem syncAndCursorSettersEmitOnChange : Obligations.SyncAndCursorSettersEmitOnChange := by
  intro s v
  refine ⟨?_, ?_, ?_⟩
  · rcases setHsync_cases s v with ⟨h, e⟩ | ⟨h, e⟩ <;> simp [e, h]
  · rcases setVsync_cases s v with ⟨h, e⟩ | ⟨h, e⟩ <;> simp [e, h]
  · rcases setCur_cases s v with ⟨h, e⟩ | ⟨h, e⟩ <;> simp [e, h]

/-- Settles O32, from the closed form `setDe_eq`. -/
theorem setDeCancelsOrStartsTheUpdateTimer : Obligations.SetDeCancelsOrStartsTheUpdateTimer := by
  intro s v
  refine ⟨setDe_of_level, fun h => ?_⟩
  rw [setDe_eq, State.deSched, if_neg h, if_neg h]

/-! ### The sub-timers (R193, R194, R271, R275, R276) -/

/-- Settles O38: the handler sets HSYNC (`setHsync_eq`) and schedules the fall after `hsw_eq` clocks. -/
theorem hsOnRaisesHsyncForItsWidth : Obligations.HsOnRaisesHsyncForItsWidth := by
  intro s p hl
  refine ⟨rfl, ?_⟩
  rw [← hsw_eq]
  exact congrArg _ ((unlessFatal_of_live hl _).trans (by rw [evHsOn_eq, setHsync_eq]))

/-- Settles O39: the handler is a set of HSYNC to low. -/
theorem hsOffLowersHsync : Obligations.HsOffLowersHsync := by
  intro s hl
  refine congrArg _ ((unlessFatal_of_live hl _).trans ?_)
  rw [evHsOff, setHsync_eq, ite_level_false]

/-- Settles O41: the captured address is MA (`add_setWidth_eq_ofNat`). -/
theorem lightPenEventLatchesTheAddress : Obligations.LightPenEventLatchesTheAddress := by
  intro s hl
  rw [← add_setWidth_eq_ofNat]
  exact congrArg _ (unlessFatal_of_live hl _)

/-- With a handler bound the address goes to the transfer (R273). -/
theorem callOnUpdateAddress_of_handler (h : s.cfg.updHandler = true) (b : Bool) :
    s.callOnUpdateAddress b = s.scheduleWith .updTrans 0 { addr := s.regs.updateAddr, strobe := b } := by
  rw [State.callOnUpdateAddress, if_pos h]

/-- Without a handler the fault is raised (R301). -/
theorem callOnUpdateAddress_of_noHandler (h : s.cfg.updHandler = false) (b : Bool) :
    s.callOnUpdateAddress b = { s with fatal := true } := by
  rw [State.callOnUpdateAddress, h]
  rfl

/-- The transfer in closed form (R276). -/
theorem evUpdTrans_eq (s : State) (a : Addr) (b : Bool) :
    evUpdTrans a b s =
      if s.ctr.updateReady = false ∧ s.regs.mode &&& 0x88 = 0x08 then
        { s with
          trace := s.trace ++ [.update a b]
          regs := { s.regs with updateAddr := s.regs.updateAddr + 1 }
          ctr := { s.ctr with updateReady := true } }
      else { s with trace := s.trace ++ [.update a b] } := by
  have hblank := tBlank_iff s
  rcases evUpdTrans_cases a b s with ⟨hr, ht, e⟩ | ⟨hr | ht, e⟩
  · rw [e, if_pos ⟨hr, hblank.1 ht⟩]
    rfl
  · rw [e, if_neg (by simp [hr])]
    rfl
  · rw [e, if_neg fun h => Bool.false_ne_true (ht.symm.trans (hblank.2 h.2))]
    rfl

/-- Settles O42. -/
theorem updateOneShots : Obligations.UpdateOneShots := by
  intro s a b hl
  refine ⟨fun h => ?_, ?_⟩
  · exact congrArg _ ((unlessFatal_of_live hl _).trans (callOnUpdateAddress_of_handler h _))
  · rw [← add_one_eq_ofNat]
    exact congrArg _ ((unlessFatal_of_live hl _).trans (evUpdTrans_eq s a b))

/-! ### VSYNC width, cursor rows and blink -/

/-- Settles O36: compare value and width agree modulo 16 (`toNat_vswCmp`), and the width is 1 to 16. -/
theorem vsyncCompareIsMetAfterVswTicks : Obligations.VsyncCompareIsMetAfterVswTicks := by
  intro s
  have hcmp := toNat_vswCmp s
  obtain ⟨h1, h16⟩ := vsw_bounds s
  refine ⟨vswCmp_eq s, vsw_eq s, h1, h16, ?_, fun n hn hlt heq => ?_⟩
  · apply BitVec.eq_of_toNat_eq
    rw [hcmp, BitVec.toNat_ofNat]
  · rw [← heq, BitVec.toNat_ofNat] at hcmp
    omega

/-- The cursor predicate (R225) as one condition: blink, address window, start row inside the cell, then the rows. -/
theorem cursorVisible_iff (s : State) (r : Nat) (la : Addr) :
    s.cursorVisible r la = true ↔
      s.ctr.cursorState = true ∧ la.toNat ≤ s.regs.cursorAddr.toNat ∧
      s.regs.cursorAddr.toNat < la.toNat + s.regs.hdisp.toNat ∧ s.curStartRow < s.ch ∧
      (if s.curStartRow ≤ s.regs.curEnd.toNat then
        s.ch ≤ s.regs.curEnd.toNat ∨ (s.curStartRow ≤ r ∧ r ≤ s.regs.curEnd.toNat)
      else s.cfg.cursorWrap = true ∧ (r ≤ s.regs.curEnd.toNat ∨ s.curStartRow ≤ r)) := by
  have hmx (n : Nat) : (n : Int) > (s.ch : Int) - 1 ↔ s.ch ≤ n := by omega
  simp only [State.cursorVisible, hmx]
  by_cases hs : s.ctr.cursorState = false
  · simp [hs]
  by_cases hw : s.regs.cursorAddr.toNat < la.toNat ∨ la.toNat + s.regs.hdisp.toNat ≤ s.regs.cursorAddr.toNat
  · rw [if_neg hs, if_pos hw]
    refine iff_of_false Bool.false_ne_true ?_
    rintro ⟨_, hlo, hhi, _⟩
    omega
  by_cases hc : s.ch ≤ s.curStartRow
  · rw [if_neg hs, if_neg hw, if_pos hc]
    refine iff_of_false Bool.false_ne_true ?_
    rintro ⟨_, _, _, hst, _⟩
    omega
  have hin : s.ctr.cursorState = true ∧ la.toNat ≤ s.regs.cursorAddr.toNat ∧
      s.regs.cursorAddr.toNat < la.toNat + s.regs.hdisp.toNat ∧ s.curStartRow < s.ch :=
    ⟨by simpa using hs, by omega, by omega, by omega⟩
  simp only [hs, hw, hc, if_false, hin, true_and]
  by_cases he : s.curStartRow ≤ s.regs.curEnd.toNat
  · by_cases hx : s.ch ≤ s.regs.curEnd.toNat <;> simp [he, hx]
  · cases hwrap : s.cfg.cursorWrap <;> simp [he]

/-- Settles O43, from `cursorVisible_iff`. -/
theorem cursorVisibleRows : Obligations.CursorVisibleRows := by
  intro s r la
  have h := cursorVisible_iff s r la
  rw [curStartRow_eq] at h
  refine ⟨fun hv => ?_, fun hcur hla hwin hst => ⟨fun hle hen => ?_, fun hle hen => ?_, fun hlt => ?_⟩⟩
  · obtain ⟨hcur, hla, hwin, hst, _⟩ := h.1 hv
    exact ⟨hcur, hla, by omega, hst⟩
  · rw [h, if_pos hle]
    simp only [hcur, hla, hwin, hst, true_and, Nat.not_le.2 hen, false_or]
  · rw [h, if_pos hle]
    exact ⟨hcur, hla, hwin, hst, .inl hen⟩
  · rw [h, if_neg (Nat.not_le.2 hlt)]
    simp only [hcur, hla, hwin, hst, true_and]

/-- Bit 4 of a byte changes at each sixteenth count. -/
theorem bit4_toggles (b : Byte) : (b.getLsbD 4 != (b + 1).getLsbD 4) = decide ((b.toNat + 1) % 16 = 0) := by
  revert b
  decide

/-- Bit 5 of a byte changes at each thirty-second count. -/
theorem bit5_toggles (b : Byte) : (b.getLsbD 5 != (b + 1).getLsbD 5) = decide ((b.toNat + 1) % 32 = 0) := by
  revert b
  decide

/-- The frame's blink in closed form (R226). -/
theorem updateCursorState_eq (s : State) :
    s.updateCursorState =
      { s with ctr := { s.ctr with blinkCtr := s.ctr.blinkCtr + 1, cursorState := s.tickCursorState } } := by
  unfold State.updateCursorState State.tickCursorState
  -- `rfl` for the two functions' own matchers, which differ when they stand in different modules
  simp only [bit4_toggles, bit5_toggles, decide_eq_true_eq] <;> rfl

/-- `cursor_state` after a frame restart, by the number of the blink mode (R226). -/
theorem tickCursorState_eq (s : State) :
    s.tickCursorState =
      if s.regs.curStart.toNat / 32 = 0 then true
      else if s.regs.curStart.toNat / 32 = 1 then false
      else if (s.ctr.blinkCtr.toNat + 1) % (if s.regs.curStart.toNat / 32 = 2 then 16 else 32) = 0 then
        !s.ctr.cursorState
      else s.ctr.cursorState := by
  have hlt : s.regs.curStart.toNat / 32 < 4 := by omega
  rw [State.tickCursorState, toNat_blinkMode]
  interval_cases s.regs.curStart.toNat / 32 <;> rfl

/-- Settles O44, from the two closed forms. -/
theorem blinkTogglesEachSixteenOrThirtyTwoFrames : Obligations.BlinkTogglesEachSixteenOrThirtyTwoFrames := by
  intro s
  refine ⟨?_, tickCursorState_eq s, ?_⟩
  · rw [← toNat_blinkMode, BitVec.ofNat_toNat, BitVec.setWidth_eq]
  · rw [updateCursorState_eq, tickCursorState_eq, add_one_eq_ofNat]

end Sys2Proof.Machine

/-! # Proofs: the line tick

The counters of a tick in closed form, step by step as R184 to R188 run them; then the scheduler and the signals; and the
three statements about `EV.LINE`. -/

namespace Sys2Proof.Machine

variable {s : State}

/-! ### The counters (R184 to R188) -/

/-- The test of R186 on natural numbers. -/
theorem lastRaster_eq (s : State) : s.lastRaster = s.tickRowEnd :=
  decide_eq_decide.2 (by omega)

/-- The row end of step 2 meets the VSYNC position (R187). -/
def State.rowStartsVsync (s : State) : Bool := s.tickRowEnd && decide (s.ctr.lc + 1 = s.regs.vsyncPos)

/-- The frame restart of step 3 meets the VSYNC position (R188). -/
def State.restartStartsVsync (s : State) : Bool := s.tickRecheck && decide (s.regs.vsyncPos = 0)

/-- The counters after step 1, from those before the tick (R184, R185). -/
def State.vsyncCounted (s : State) : State :=
  { s with ctr := { s.ctr with
      cc := 0
      vswCtr := if s.ctr.vsyncFf then s.ctr.vswCtr + 1 else s.ctr.vswCtr
      vsyncFf := s.ctr.vsyncFf && !s.tickVsyncEnd } }

/-- The counters after step 2 (R186, R187). -/
def State.rowCounted (s : State) : State :=
  { s with ctr := { s.ctr with
      ra := if s.tickRowEnd then 0 else s.ctr.ra + 1
      lc := if s.tickRowEnd then s.ctr.lc + 1 else s.ctr.lc
      lineAddr := if s.tickRowEnd then s.ctr.lineAddr + s.regs.hdisp.setWidth 14 else s.ctr.lineAddr
      adjCtr := s.tickAdjCount
      adjActive := s.tickAdjusting
      lineEnable := s.ctr.lineEnable && !(s.tickRowEnd && decide (s.ctr.lc + 1 = s.regs.vdisp))
      vswCtr := if s.rowStartsVsync then 0 else s.ctr.vswCtr
      vsyncFf := s.rowStartsVsync || s.ctr.vsyncFf } }

theorem lineStep1_lineStep0 (s : State) :
    lineStep1 (lineStep0 s).1 (lineStep0 s).2 = (s.vsyncCounted, !s.tickVsyncEnd && s.sig.vsync) := by
  have hcmp : (lineStep0 s).1.vswCmp = s.vswCmp := rfl
  rw [lineStep1_eq, hcmp]
  cases h : s.ctr.vsyncFf <;> simp [lineStep0, State.vsyncCounted, State.tickVsyncEnd, h]

theorem lineStep2_eq (s : State) (nv : Bool) : lineStep2 s nv = (s.rowCounted, s.rowStartsVsync || nv) := by
  unfold lineStep2 State.rowCounted State.rowStartsVsync State.tickAdjusting State.tickAdjCount State.tickEnter
  rw [lastRaster_eq]
  cases s.tickRowEnd
  · simp
  · by_cases hf : s.ctr.lc = s.regs.vtotal <;>
      simp [matchLine_eq, State.endOfFrame, State.nextRow, hf, Bool.and_comm]

/-- Step 3 restarts the frame: vertical adjust is active and its count is met (R188). -/
def State.restartDue (s : State) : Bool := s.ctr.adjActive && decide (s.ctr.adjCtr = s.regs.vtotalAdj)

/-- The state after step 3 (R188, R226), for a tick that restarts the frame or not. -/
def State.adjustCounted (s : State) : State :=
  if s.restartDue then
    { s with
      ctr := { s.ctr with
        adjActive := false
        ra := 0
        lc := 0
        lineAddr := s.regs.dispStart
        lineEnable := !(s.cfg.vswField && decide (s.regs.vdisp = 0))
        vswCtr := if s.cfg.vswField && decide (s.regs.vsyncPos = 0) then 0 else s.ctr.vswCtr
        vsyncFf := (s.cfg.vswField && decide (s.regs.vsyncPos = 0)) || s.ctr.vsyncFf
        blinkCtr := s.ctr.blinkCtr + 1
        cursorState := s.tickCursorState }
      trace := s.trace ++ [.originReset] }
  else { s with ctr := { s.ctr with adjCtr := if s.ctr.adjActive then s.ctr.adjCtr + 1 else s.ctr.adjCtr } }

theorem lineStep3_eq (s : State) (nv : Bool) :
    lineStep3 s nv =
      (s.adjustCounted, (s.restartDue && s.cfg.vswField && decide (s.regs.vsyncPos = 0)) || nv) := by
  unfold lineStep3 State.adjustCounted State.restartDue
  cases ha : s.ctr.adjActive
  · simp only [Bool.false_eq_true, if_false, Bool.false_and, Bool.false_or]
  · by_cases hr : s.ctr.adjCtr = s.regs.vtotalAdj
    · cases hv : s.cfg.vswField
      · simp [hr, hv, updateCursorState_eq]
        rfl
      · simp [hr, hv, updateCursorState_eq, matchLine_eq, eq_comm (a := 0#7)]
        rfl
    · simp [hr]

/-! ### The whole tick -/

/-- Every counter and flag after a tick, in closed form (R183 to R188). -/
def State.tickCtr (s : State) : Counters :=
  { s.ctr with
    cc := 0
    ra := if s.tickRestart || s.tickRowEnd then 0 else s.ctr.ra + 1
    lc := if s.tickRestart then 0 else if s.tickRowEnd then s.ctr.lc + 1 else s.ctr.lc
    lineAddr := if s.tickRestart then s.regs.dispStart
      else if s.tickRowEnd then s.ctr.lineAddr + s.regs.hdisp.setWidth 14 else s.ctr.lineAddr
    adjActive := s.tickAdjusting && !s.tickRestart
    adjCtr := if s.tickAdjusting && !s.tickRestart then s.tickAdjCount + 1 else s.tickAdjCount
    lineEnable := s.tickLineEnable
    vsyncFf := s.tickVsyncStart || (s.ctr.vsyncFf && !s.tickVsyncEnd)
    vswCtr := if s.tickVsyncStart then 0 else if s.ctr.vsyncFf then s.ctr.vswCtr + 1 else s.ctr.vswCtr
    blinkCtr := if s.tickRestart then s.ctr.blinkCtr + 1 else s.ctr.blinkCtr
    cursorState := if s.tickRestart then s.tickCursorState else s.ctr.cursorState }

/-- The state after the counters of a tick: the closed form, and the frame origin of a restart. -/
def State.ticked (s : State) : State :=
  { s with ctr := s.tickCtr, trace := s.trace ++ (if s.tickRestart then [.originReset] else []) }

@[simp] theorem vsyncCounted_tickRowEnd (s : State) : s.vsyncCounted.tickRowEnd = s.tickRowEnd := rfl
@[simp] theorem vsyncCounted_tickAdjCount (s : State) : s.vsyncCounted.tickAdjCount = s.tickAdjCount := rfl
@[simp] theorem vsyncCounted_tickAdjusting (s : State) : s.vsyncCounted.tickAdjusting = s.tickAdjusting := rfl
@[simp] theorem vsyncCounted_rowStartsVsync (s : State) : s.vsyncCounted.rowStartsVsync = s.rowStartsVsync := rfl
@[simp] theorem rowCounted_restartDue (s : State) : s.vsyncCounted.rowCounted.restartDue = s.tickRestart := rfl
@[simp] theorem rowCounted_tickCursorState (s : State) :
    s.vsyncCounted.rowCounted.tickCursorState = s.tickCursorState := rfl

theorem adjustCounted_ticked (s : State) : s.vsyncCounted.rowCounted.adjustCounted = s.ticked := by
  unfold State.adjustCounted
  rw [rowCounted_restartDue, rowCounted_tickCursorState]
  unfold State.rowCounted State.ticked State.tickCtr State.tickLineEnable State.tickVsyncStart State.tickRecheck
  simp only [vsyncCounted_tickRowEnd, vsyncCounted_tickAdjCount, vsyncCounted_tickAdjusting, vsyncCounted_rowStartsVsync]
  cases hr : s.tickRestart
  · simp [State.vsyncCounted, State.rowStartsVsync]
    rfl
  · cases hv : s.cfg.vswField
    · simp [State.vsyncCounted, State.rowStartsVsync, hv]
    · by_cases h0 : s.regs.vsyncPos = 0#7 <;> simp [State.vsyncCounted, State.rowStartsVsync, hv, h0]

/-- The level to apply is raised by either comparison, else lowered by the end of the pulse (R185, R187). -/
theorem tickVsync_eq (s : State) :
    s.tickVsync = (s.restartStartsVsync || (s.rowStartsVsync || (!s.tickVsyncEnd && s.sig.vsync))) := by
  have hbool : ∀ row restart ended level : Bool,
      (if row || restart then true else if ended then false else level) =
        (restart || (row || (!ended && level))) := by decide
  exact hbool s.rowStartsVsync s.restartStartsVsync s.tickVsyncEnd s.sig.vsync

/-- Steps 0 to 3 in closed form: the counters, and the VSYNC level to apply. -/
theorem lineCounters_eq (s : State) : lineCounters s = (s.ticked, s.tickVsync) := by
  unfold lineCounters
  rw [tickVsync_eq, ← adjustCounted_ticked]
  dsimp only
  rw [lineStep1_lineStep0, lineStep2_eq, lineStep3_eq]
  rfl

/-! ### The scheduler (R189, R190) and the levels (R191) -/

/-- Step 4 writes the scheduler alone. -/
theorem lineStep4_eq_sched (s : State) : lineStep4 s = { s with sched := (lineStep4 s).sched } := by
  rcases lineStep4_cases s with ⟨_, e⟩ | ⟨_, _, e⟩ | ⟨_, _, e⟩ <;> rw [e] <;> rfl

/-- The scheduler after steps 4 and 5. -/
def State.lineArmed (s : State) : Sched := (lineStep5 (lineStep4 s)).sched

/-- A tick in closed form (R183 to R191). -/
theorem evLine_closed (s : State) :
    evLine s = { s.ticked with
      sig := { s.sig with vsync := s.tickVsync, de := s.tickLineEnable }
      trace := s.ticked.trace ++ (if s.sig.vsync = s.tickVsync then [] else [.vsync s.tickVsync])
        ++ (if s.sig.de = s.tickLineEnable then [] else [.de s.tickLineEnable])
      sched := { s.ticked with sched := s.ticked.lineArmed }.deSched s.tickLineEnable } := by
  have harm : lineStep5 (lineStep4 s.ticked) = { s.ticked with sched := s.ticked.lineArmed } := by
    unfold State.lineArmed
    rw [lineStep5_eq, lineStep4_eq_sched]
    rfl
  rw [evLine_eq, lineCounters_eq, lineStep6_eq, setDe_eq, setVsync_eq, harm]
  rfl

theorem exec_evLine_of_live (hl : s.fatal = false) : exec .evLine s = .next (evLine s) :=
  congrArg _ (unlessFatal_of_live hl evLine)

/-- A set of DE leaves every slot but `T[UPD_ADR]`. -/
theorem deSched_get_of_ne (s : State) (v : Bool) {u : Tag} (hu : u ≠ .updAdr) :
    (s.deSched v).slots.get u = s.sched.slots.get u := by
  unfold State.deSched
  split_ifs <;> simp [hu]

/-- What a set of DE leaves in `T[UPD_ADR]` (R223, R274). -/
theorem deSched_get_updAdr (s : State) (v : Bool) :
    (s.deSched v).slots.get .updAdr =
      if v = s.sig.de then s.sched.slots.get .updAdr
      else if v then none
      else if s.ctr.updateReady = false ∧ s.cfg.transparent = true then
        some { due := s.sched.now + s.cfg.updDelay, seq := s.sched.seq, payload := Payload.empty }
      else s.sched.slots.get .updAdr := by
  rw [State.deSched]
  simp only [eq_comm (a := v)]
  split_ifs <;> simp

theorem deSched_now (s : State) (v : Bool) : (s.deSched v).now = s.sched.now := by
  unfold State.deSched
  split_ifs <;> rfl

/-- The line shows the cursor (R189). -/
def State.lineShowsCursor (s : State) : Bool := s.ctr.lineEnable && s.cursorVisible s.ctr.ra.toNat s.ctr.lineAddr

/-- The slots that steps 4 and 5 fill, in the order of their sequence numbers, and `now`. -/
theorem lineArmed_eq (s : State) :
    s.lineArmed =
      let first := s.sched.seq
      let hs := first + (if s.ctr.lineEnable then 1 else 0) + (if s.lineShowsCursor then 1 else 0)
      let slotAt (delay seq : Nat) : Option Slot :=
        some { due := s.sched.now + delay, seq := seq, payload := Payload.empty }
      { now := s.sched.now
        seq := hs + 2
        slots := { s.sched.slots with
          deOff := if s.ctr.lineEnable then slotAt s.regs.hdisp.toNat first else s.slot .deOff
          curOn := if s.lineShowsCursor then
              slotAt (s.regs.cursorAddr.toNat - s.ctr.lineAddr.toNat) (first + 1)
            else s.slot .curOn
          hsOn := slotAt s.regs.hsyncPos.toNat hs
          line := slotAt (s.regs.htotal.toNat + 1) (hs + 1) } } := by
  unfold State.lineArmed State.lineShowsCursor
  rw [lineStep5_eq]
  rcases lineStep4_cases s with ⟨hon, e⟩ | ⟨hon, hc, e⟩ | ⟨hon, hc, e⟩ <;> rw [e, hon]
  · rfl
  · rw [hc]
    rfl
  · rw [hc]
    rfl

/-! ### The statements -/

/-- Settles O33: the counters are `tickCtr`, and the later steps leave them. -/
theorem lineTickCounters : Obligations.LineTickCounters := by
  intro s hl
  refine ⟨evLine s, exec_evLine_of_live hl, ?_⟩
  rw [evLine_closed, ← add_setWidth_eq_ofNat]
  exact ⟨rfl, rfl, rfl, rfl, rfl, rfl, rfl⟩

/-- Settles O34: `lineArmed_eq` gives the slots of steps 4 and 5, and the set of DE moves `T[UPD_ADR]` alone. -/
theorem lineTickSlots : Obligations.LineTickSlots := by
  intro s hl
  refine ⟨evLine s, exec_evLine_of_live hl, ?_⟩
  rw [evLine_closed]
  have hother := fun u hu => deSched_get_of_ne { s.ticked with sched := s.ticked.lineArmed } s.tickLineEnable (u := u) hu
  have hupd := deSched_get_updAdr { s.ticked with sched := s.ticked.lineArmed } s.tickLineEnable
  have hnow := deSched_now { s.ticked with sched := s.ticked.lineArmed } s.tickLineEnable
  rw [lineArmed_eq] at hother hupd hnow ⊢
  exact ⟨hother .deOff (by decide), hother .curOn (by decide), hother .hsOn (by decide), hother .line (by decide), hupd,
    hother .curOff (by decide), hother .hsOff (by decide), hother .lpen (by decide), hother .updTrans (by decide), hnow⟩

/-- Settles O35. -/
theorem lineTickLevelsAndRecords : Obligations.LineTickLevelsAndRecords := by
  intro s hl
  refine ⟨evLine s, exec_evLine_of_live hl, ?_⟩
  rw [evLine_closed]
  exact ⟨rfl, rfl⟩

end Sys2Proof.Machine

/-! # Proofs: the scheduler

Which slot fires, what each event does to the slots, the measure by which `run_due` ends, and the statements about the
scheduler and the step. -/

namespace Sys2Proof

/-! ### What a tag says of its event -/

/-- The tags that are scheduled strictly ahead wherever they are scheduled: LINE by a line period (R190, R245), CUR_OFF and
LPEN by 1 (R195, R270), HS_OFF by a width (R193). -/
def Tag.ahead : Tag → Bool
  | .line | .curOff | .hsOff | .lpen => true
  | .deOff | .curOn | .hsOn | .updAdr | .updTrans => false

/-- The slots that an event can write. -/
def Tag.arms : Tag → List Tag
  | .line => [.line, .deOff, .curOn, .hsOn, .updAdr]
  | .deOff => [.updAdr]
  | .curOn => [.curOff]
  | .hsOn => [.hsOff]
  | .updAdr => [.updTrans]
  | .curOff | .hsOff | .lpen | .updTrans => []

/-- The tags that an event can make due at its own instant. -/
def Tag.starts (t : Tag) : List Tag := t.arms.filter fun u => !u.ahead

/-- The rounds that a due slot of the tag can cost: its own, and those of the slots that its event can make due. -/
def Tag.rounds : Tag → Nat
  | .line => 8
  | .deOff => 3
  | .updAdr => 2
  | .curOn | .curOff | .hsOn | .hsOff | .lpen | .updTrans => 1

end Sys2Proof

namespace Sys2Proof.Machine

variable {s : State}

/-! ### The slot that fires next (R181) -/

theorem mem_dueSlots {t : Tag} {sl : Slot} :
    (t, sl) ∈ s.dueSlots ↔ s.slot t = some sl ∧ sl.due ≤ s.sched.now := by
  rw [State.dueSlots, List.mem_filterMap]
  constructor
  · rintro ⟨u, _, hu⟩
    rw [slot_def] at hu
    cases hs : s.sched.slots.get u with
    | none => simp [hs] at hu
    | some x =>
      simp only [hs, Option.ite_none_right_eq_some, Option.some.injEq, Prod.mk.injEq, Slot.dueBy,
        decide_eq_true_eq] at hu
      obtain ⟨hd, rfl, rfl⟩ := hu
      exact ⟨hs, hd⟩
  · rintro ⟨hs, hd⟩
    rw [slot_def] at hs
    exact ⟨t, mem_allTags t, by simp [hs, Slot.dueBy, hd]⟩

theorem leastSeq_eq_none_iff {l : List (Tag × Slot)} : leastSeq l = none ↔ l = [] := by
  cases l with
  | nil => simp [leastSeq]
  | cons x l =>
    unfold leastSeq
    split
    · simp
    · split <;> simp

/-- The entry that fires next has the least sequence number of the list. -/
theorem leastSeq_le {l : List (Tag × Slot)} {x y : Tag × Slot} (h : leastSeq l = some x) (hy : y ∈ l) :
    x.2.seq ≤ y.2.seq := by
  induction l generalizing x with
  | nil => cases hy
  | cons z l ih =>
    unfold leastSeq at h
    split at h
    · next hn =>
      cases h
      rw [leastSeq_eq_none_iff.1 hn, List.mem_singleton] at hy
      rw [hy]
    · next w hw =>
      have hle : y = z ∨ w.2.seq ≤ y.2.seq := (List.mem_cons.1 hy).imp_right (ih hw)
      split at h <;> cases h <;> rcases hle with rfl | hle <;> omega

theorem quiet_iff_not_due :
    s.quiet = true ↔ ∀ t sl, s.slot t = some sl → ¬ sl.due ≤ s.sched.now := by
  rw [quiet_iff]
  refine forall_congr' fun t => ?_
  rw [← slot_def]
  cases s.slot t <;> simp

theorem pickDue_eq_none_iff : s.pickDue = none ↔ s.quiet = true := by
  rw [State.pickDue, leastSeq_eq_none_iff, quiet_iff_not_due, List.eq_nil_iff_forall_not_mem, Prod.forall]
  simp only [mem_dueSlots, not_and]

/-- Settles O8: the picked entry is one of the due slots (`pickDue_due`), and the least of them (`leastSeq_le`). -/
theorem pickDueTakesTheLeastSequenceNumber : Obligations.PickDueTakesTheLeastSequenceNumber := by
  intro s
  refine ⟨fun t sl h => ?_, pickDue_eq_none_iff⟩
  obtain ⟨hs, hd⟩ := pickDue_due h
  exact ⟨hs, hd, fun u sl' hs' hd' => leastSeq_le h (mem_dueSlots.2 ⟨hs', hd'⟩)⟩

/-- When one slot alone is due, it is the one that fires. -/
theorem pickDue_of_only_due {t : Tag} {sl : Slot} (hs : s.slot t = some sl) (hd : sl.due ≤ s.sched.now)
    (hother : ∀ u, u ≠ t → futureSlot s.sched.now (s.slot u) = true) : s.pickDue = some (t, sl) := by
  cases hp : s.pickDue with
  | none => exact absurd hd (quiet_iff_not_due.1 (pickDue_eq_none_iff.1 hp) t sl hs)
  | some p =>
    obtain ⟨u, sl'⟩ := p
    obtain ⟨hs', hd'⟩ := pickDue_due hp
    by_cases hu : u = t
    · subst hu
      rw [hs] at hs'
      cases hs'
      rfl
    · have hf := hother u hu
      rw [hs', futureSlot_some, decide_eq_true_eq] at hf
      exact absurd hd' (Nat.not_le.2 hf)

/-- Settles O7. -/
theorem scheduleReplacesTheSlot : Obligations.ScheduleReplacesTheSlot := by
  intro s t u d p
  exact ⟨Slots.get_set _ t u _, rfl, rfl, rfl, Slots.get_set _ t u _, rfl, rfl, rfl⟩

/-! ### What an operation can do to the slots -/

/-- What a slot of the tag can hold right after it was written: nothing in the past, and for some tags nothing due. -/
def freshSlot (now : Nat) (t : Tag) (x : Option Slot) : Bool := if t.ahead then futureSlot now x else notPast now x

/-- `now` stands, `seq` does not fall, and only the slots of the tags `T` are written, with fresh values. -/
structure Rearms (T : List Tag) (s s' : State) : Prop where
  now : s'.sched.now = s.sched.now
  seq : s.sched.seq ≤ s'.sched.seq
  slot : ∀ u, s'.slot u = s.slot u ∨ (u ∈ T ∧ freshSlot s.sched.now u (s'.slot u) = true)

theorem Rearms.of_sched_eq {T : List Tag} {s s' : State} (h : s'.sched = s.sched) : Rearms T s s' :=
  ⟨by rw [h], by rw [h], fun u => .inl (by rw [slot_def, slot_def, h])⟩

theorem Rearms.trans {T U : List Tag} {s s' s'' : State} (h : Rearms T s s') (k : Rearms U s' s'') (hU : U ⊆ T) :
    Rearms T s s'' := by
  refine ⟨k.now.trans h.now, h.seq.trans k.seq, fun u => ?_⟩
  rcases k.slot u with e | ⟨hu, hf⟩
  · rw [e]
    exact h.slot u
  · rw [h.now] at hf
    exact .inr ⟨hU hu, hf⟩

theorem Rearms.mono {T U : List Tag} {s s' : State} (h : Rearms U s s') (hU : U ⊆ T) : Rearms T s s' :=
  (Rearms.of_sched_eq rfl).trans h hU

/-- A slot outside the tags stands. -/
theorem Rearms.slot_eq {T : List Tag} {s s' : State} (h : Rearms T s s') {u : Tag} (hu : u ∉ T) :
    s'.slot u = s.slot u :=
  (h.slot u).resolve_right fun k => hu k.1

theorem notPast_of_futureSlot {now : Nat} {x : Option Slot} (h : futureSlot now x = true) : notPast now x = true := by
  cases x with
  | none => rfl
  | some sl =>
    rw [futureSlot_some, decide_eq_true_eq] at h
    simpa using h.le

theorem notPast_of_freshSlot {now : Nat} {t : Tag} {x : Option Slot} (h : freshSlot now t x = true) :
    notPast now x = true := by
  unfold freshSlot at h
  split at h
  · exact notPast_of_futureSlot h
  · exact h

theorem rearms_scheduleWith (s : State) (t : Tag) {d : Nat} (p : Payload) (hd : t.ahead = true → 0 < d) :
    Rearms [t] s (s.scheduleWith t d p) := by
  refine ⟨rfl, Nat.le_succ _, fun u => ?_⟩
  by_cases hu : u = t
  · subst hu
    refine .inr ⟨List.mem_singleton_self u, ?_⟩
    rw [slot_def, scheduleWith_sched, Slots.get_set, if_pos rfl, freshSlot]
    split
    · next ha => simpa using hd ha
    · simp
  · exact .inl (by simp [hu])

theorem rearms_schedule (s : State) (t : Tag) {d : Nat} (hd : t.ahead = true → 0 < d) : Rearms [t] s (s.schedule t d) :=
  rearms_scheduleWith s t _ hd

/-- A tag that may be scheduled at its own instant, with any delay. -/
theorem rearms_schedule_now (s : State) {t : Tag} (ht : t.ahead = false) (d : Nat) : Rearms [t] s (s.schedule t d) :=
  rearms_schedule s t fun ha => absurd (ht.symm.trans ha) Bool.false_ne_true

theorem rearms_cancel (s : State) (t : Tag) : Rearms [t] s (s.cancel t) := by
  refine ⟨rfl, le_rfl, fun u => ?_⟩
  by_cases hu : u = t
  · subst hu
    refine .inr ⟨List.mem_singleton_self u, ?_⟩
    rw [slot_def, cancel_sched, Slots.get_set, if_pos rfl, freshSlot]
    simp
  · exact .inl (by simp [hu])

theorem rearms_setDe (s : State) (v : Bool) : Rearms [.updAdr] s (s.setDe v) := by
  rw [setDe_eq]
  unfold State.deSched
  split_ifs
  · exact Rearms.of_sched_eq rfl
  · exact (rearms_cancel s .updAdr).trans (Rearms.of_sched_eq (T := []) rfl) (List.nil_subset _)
  · exact (rearms_schedule_now s (t := .updAdr) rfl _).trans (Rearms.of_sched_eq (T := []) rfl) (List.nil_subset _)
  · exact Rearms.of_sched_eq rfl

theorem rearms_callOnUpdateAddress (s : State) (b : Bool) : Rearms [.updTrans] s (s.callOnUpdateAddress b) := by
  rcases callOnUpdateAddress_cases s b with ⟨_, e⟩ | ⟨_, e⟩ <;> rw [e]
  · exact rearms_scheduleWith s .updTrans _ fun ha => absurd ha Bool.false_ne_true
  · exact Rearms.of_sched_eq rfl

theorem rearms_lineStep4 (s : State) : Rearms [.deOff, .curOn] s (lineStep4 s) := by
  have hde := (rearms_schedule_now s (t := .deOff) rfl s.regs.hdisp.toNat).mono (T := [.deOff, .curOn]) (by simp)
  rcases lineStep4_cases s with ⟨_, e⟩ | ⟨_, _, e⟩ | ⟨_, _, e⟩ <;> rw [e]
  · exact Rearms.of_sched_eq rfl
  · exact hde
  · exact hde.trans (rearms_schedule_now _ (t := .curOn) rfl _) (by simp)

theorem rearms_lineStep5 (s : State) : Rearms [.hsOn, .line] s (lineStep5 s) := by
  rw [lineStep5_eq]
  exact ((rearms_schedule_now s (t := .hsOn) rfl _).mono (by simp)).trans
    (rearms_schedule _ .line fun _ => Nat.succ_pos _) (by simp)

theorem rearms_evLine (s : State) : Rearms Tag.line.arms s (evLine s) := by
  have h0 : Rearms Tag.line.arms s (lineCounters s).1 := Rearms.of_sched_eq (by rw [lineCounters_eq]; rfl)
  have h4 := h0.trans (rearms_lineStep4 _) (by decide)
  have h5 := h4.trans (rearms_lineStep5 _) (by decide)
  have hv := h5.trans (Rearms.of_sched_eq (T := []) (setVsync_sched _ (lineCounters s).2)) (by decide)
  exact hv.trans (rearms_setDe _ _) (by decide)

/-- An event writes the slots of its list alone. -/
theorem rearms_fire (s : State) (p : Payload) (t : Tag) : Rearms t.arms s (s.fire p t) := by
  cases t
  case line => exact rearms_evLine s
  case deOff => exact rearms_setDe s false
  case curOn => exact ((Rearms.of_sched_eq (setCur_sched s true)).trans (rearms_schedule _ .curOff fun _ => one_pos)
    (List.Subset.refl _))
  case curOff => exact Rearms.of_sched_eq (setCur_sched s false)
  case hsOn =>
    show Rearms [.hsOff] s (evHsOn s)
    rw [evHsOn_eq]
    have hset := setHsync_sched { s with ctr := { s.ctr with hswCtr := 0 } } true
    exact (Rearms.of_sched_eq (s := s) hset).trans (rearms_schedule _ .hsOff fun _ => (hsw_bounds s).1) (List.Subset.refl _)
  case hsOff => exact Rearms.of_sched_eq (setHsync_sched s false)
  case lpen => exact Rearms.of_sched_eq rfl
  case updAdr => exact rearms_callOnUpdateAddress s _
  case updTrans =>
    show Rearms [] s (evUpdTrans p.addr p.strobe s)
    rcases evUpdTrans_cases p.addr p.strobe s with ⟨_, _, e⟩ | ⟨_, e⟩ <;> rw [e] <;> exact Rearms.of_sched_eq rfl

/-! ### The measure of `run_due` (R181) -/

/-- The slot of the tag is due. -/
def State.isDue (s : State) (t : Tag) : Bool := !futureSlot s.sched.now (s.slot t)

/-- The rounds that the due slots can cost together. -/
def roundsOf (due : Tag → Bool) : Nat := (allTags.map fun t => if due t then t.rounds else 0).sum

theorem roundsOf_le (due : Tag → Bool) : roundsOf due ≤ 19 :=
  calc roundsOf due ≤ (allTags.map Tag.rounds).sum :=
        List.sum_le_sum fun t _ => by split <;> omega
    _ = 19 := rfl

/-- A round that fires `t` and makes due at most what `t` starts lowers the measure. -/
theorem roundsOf_lt {due due' : Tag → Bool} {t : Tag} (ht : due t = true)
    (h : ∀ u, due' u = true → u ∈ t.starts ∨ (u ≠ t ∧ due u = true)) : roundsOf due' < roundsOf due := by
  have hpoint : ∀ u, (if due' u then u.rounds else 0) + (if u = t then u.rounds else 0) ≤
      (if due u then u.rounds else 0) + (if u ∈ t.starts then u.rounds else 0) := by
    intro u
    by_cases hut : u = t
    · subst hut
      have hnot : u ∉ u.starts := by cases u <;> decide
      have hoff : due' u = false := by
        by_contra hc
        rcases h u (by simpa using hc) with hs | ⟨hne, _⟩
        · exact hnot hs
        · exact hne rfl
      simp [ht, hoff]
    · have := h u
      by_cases hd : due' u = true <;> by_cases hs : u ∈ t.starts <;> by_cases hu : due u = true <;>
        simp_all
  have hsum := List.sum_le_sum (l := allTags) fun u _ => hpoint u
  rw [List.sum_map_add, List.sum_map_add] at hsum
  have hown : (allTags.map fun u => if u = t then u.rounds else 0).sum =
      (allTags.map fun u => if u ∈ t.starts then u.rounds else 0).sum + 1 := by
    cases t <;> rfl
  rw [hown] at hsum
  unfold roundsOf
  omega

/-- The rounds left at this instant. -/
def State.roundsLeft (s : State) : Nat := roundsOf s.isDue

theorem isDue_of_slot {t : Tag} {sl : Slot} (hs : s.slot t = some sl) (hd : sl.due ≤ s.sched.now) :
    s.isDue t = true := by
  rw [State.isDue, hs, futureSlot_some]
  simpa using hd

/-- A round of `run_due` lowers the measure. -/
theorem roundsLeft_round_lt {t : Tag} {sl : Slot} (hp : s.pickDue = some (t, sl)) :
    ((s.cancel t).fire sl.payload t).roundsLeft < s.roundsLeft := by
  obtain ⟨hs, hd⟩ := pickDue_due hp
  refine roundsOf_lt (isDue_of_slot hs hd) fun u hu => ?_
  have hr := rearms_fire (s.cancel t) sl.payload t
  rw [State.isDue, hr.now] at hu
  rcases hr.slot u with e | ⟨hmem, hf⟩
  · rw [e] at hu
    by_cases hut : u = t
    · simp [hut] at hu
    · refine .inr ⟨hut, ?_⟩
      simpa [State.isDue, hut] using hu
  · refine .inl (List.mem_filter.2 ⟨hmem, ?_⟩)
    by_contra ha
    rw [freshSlot, if_pos (by simpa using ha)] at hf
    rw [hf] at hu
    cases hu

/-- With enough rounds the loop settles. -/
theorem runDueLoop_settles (n : Nat) (s : State) (h : s.roundsLeft ≤ n) :
    (runDueLoop n s).fatal = true ∨ (runDueLoop n s).quiet = true := by
  induction n generalizing s with
  | zero =>
    refine .inr (pickDue_eq_none_iff.1 ?_)
    by_contra hne
    obtain ⟨⟨t, sl⟩, hp⟩ := Option.ne_none_iff_exists'.1 hne
    have hp : s.pickDue = some (t, sl) := hp
    have := roundsLeft_round_lt hp
    omega
  | succ n ih =>
    cases hf : s.fatal with
    | true => rw [runDueLoop_of_fatal hf]; exact .inl hf
    | false =>
      cases hp : s.pickDue with
      | none =>
        have hq := pickDue_eq_none_iff.1 hp
        rw [runDueLoop_of_quiet hq]
        exact .inr hq
      | some p =>
        have hlt := roundsLeft_round_lt hp
        rw [runDueLoop_round hf hp]
        exact ih _ (by omega)

/-- With enough rounds a further one changes nothing. -/
theorem runDueLoop_succ (n : Nat) (s : State) (h : s.roundsLeft ≤ n) : runDueLoop (n + 1) s = runDueLoop n s := by
  induction n generalizing s with
  | zero =>
    rcases runDueLoop_settles 0 s h with hf | hq
    · rw [runDueLoop_of_fatal (s := s) hf, runDueLoop_of_fatal (s := s) hf]
    · rw [runDueLoop_of_quiet (s := s) hq, runDueLoop_of_quiet (s := s) hq]
  | succ n ih =>
    cases hf : s.fatal with
    | true => rw [runDueLoop_of_fatal hf, runDueLoop_of_fatal hf]
    | false =>
      cases hp : s.pickDue with
      | none =>
        have hq := pickDue_eq_none_iff.1 hp
        rw [runDueLoop_of_quiet hq, runDueLoop_of_quiet hq]
      | some p =>
        have hlt := roundsLeft_round_lt hp
        rw [runDueLoop_round hf hp, runDueLoop_round hf hp]
        exact ih _ (by omega)

/-- Settles O9: at most 19 rounds are left (`roundsOf_le`), and 24 are allowed. -/
theorem runDueLeavesNothingDue : Obligations.RunDueLeavesNothingDue := fun s =>
  runDueLoop_settles _ s ((roundsOf_le _).trans (by decide))

/-- One round of `run_due`: what it leaves, `run_due` goes on with. -/
theorem runDue_round {t : Tag} {sl : Slot} (hl : s.fatal = false) (hp : s.pickDue = some (t, sl)) :
    s.runDue = ((s.cancel t).fire sl.payload t).runDue := by
  have hle : ((s.cancel t).fire sl.payload t).roundsLeft ≤ 23 := (roundsOf_le _).trans (by decide)
  exact (runDueLoop_round hl hp 23).trans (runDueLoop_succ 23 _ hle).symm

/-- Settles O10. -/
theorem runDueIsTheLoopOfTheRule : Obligations.RunDueIsTheLoopOfTheRule := fun _ =>
  ⟨runDue_of_fatal, runDue_of_quiet, fun _ _ => runDue_round⟩

end Sys2Proof.Machine

/-! # Proofs: the step

What `step` takes next and what the placement of an operation word leaves, and the statements about them. -/

namespace Sys2Proof.Machine

variable {s : State}

/-! ### Fetching (R8, R78, R181) -/

theorem fetch_of_idle (h : s.fatal = true ∨ s.quiet = true) : s.fetch = s.nextRequest := by
  unfold State.fetch
  cases hf : s.fatal
  · rw [hf] at h
    rw [pickDue_of_quiet (h.resolve_left Bool.false_ne_true)]
    rfl
  · rfl

theorem fetch_of_pickDue {t : Tag} {sl : Slot} (hl : s.fatal = false) (hp : s.pickDue = some (t, sl)) :
    s.fetch = some (.event t.code sl.payload, s.cancel t) := by
  simp [State.fetch, hl, hp]

theorem nextRequest_of_cons {r : Request} {rest : List Request} (h : s.inbox = r :: rest) :
    s.nextRequest = some (r.toOpWord s.regs.al, { s with inbox := rest }) := by
  simp [State.nextRequest, h]

theorem step_of_decode {w : OpWord} {s' : State} {i : Instr} (hf : s.fetch = some (w, s')) (hd : decode w = .ok i) :
    step s = exec i s' := by
  simp [step, hf, hd]

/-- Settles O5: `fetch_of_idle` and `fetch_of_pickDue` say what is taken, the decoder what becomes of it. -/
theorem stepRunsTheDecodedOperation : Obligations.StepRunsTheDecodedOperation := by
  intro s
  refine ⟨fun r rest i hr hi hd => ?_, fun t sl i hl hp hd => ?_, fun hn hi => ?_, fun r rest e hr hi hd => ?_⟩
  · exact step_of_decode ((fetch_of_idle hi).trans (nextRequest_of_cons hr)) hd
  · exact step_of_decode (fetch_of_pickDue hl hp) hd
  · simp [step, fetch_of_idle hi, State.nextRequest, hn]
  · simp [step, fetch_of_idle hi, nextRequest_of_cons hr, hd]

/-! ### Placing an operation word (log 11) -/

@[simp] theorem clearDue_get (s : State) (t : Tag) :
    s.clearDue.sched.slots.get t = keepUndue s.sched.now (s.sched.slots.get t) := by
  cases t <;> rfl

theorem keepUndue_of_future {now : Nat} {sl : Slot} (h : now < sl.due) : keepUndue now (some sl) = some sl := by
  simp [keepUndue, Slot.dueBy, h]

theorem keepUndue_of_due {now : Nat} {sl : Slot} (h : sl.due ≤ now) : keepUndue now (some sl) = none := by
  simp [keepUndue, Slot.dueBy, h]

theorem futureSlot_keepUndue (now : Nat) (x : Option Slot) : futureSlot now (keepUndue now x) = true := by
  cases x with
  | none => rfl
  | some sl =>
    by_cases h : sl.due ≤ now
    · rw [keepUndue_of_due h, futureSlot_none]
    · rw [keepUndue_of_future (Nat.not_le.1 h), futureSlot_some]
      simpa using h

theorem quiet_clearDue (s : State) : s.clearDue.quiet = true :=
  (quiet_iff _).2 fun t => by
    rw [clearDue_get]
    exact futureSlot_keepUndue s.sched.now _

/-- What a placed operation runs from, compared with the state it was placed in: the address latch, the slots that were due,
and the slot of the placed event may differ. -/
structure PlacedFrame (s : State) (w : OpWord) (s' : State) : Prop where
  cfg : s'.cfg = s.cfg
  regs : s'.regs = { s.regs with al := s'.regs.al }
  ctr : s'.ctr = s.ctr
  sig : s'.sig = s.sig
  geo : s'.geo = s.geo
  now : s'.sched.now = s.sched.now
  seq : s'.sched.seq = s.sched.seq
  fatal : s'.fatal = s.fatal
  trace : s'.trace = s.trace
  rdata : s'.rdata = s.rdata
  inbox : s'.inbox = s.inbox
  slot : ∀ t, s'.slot t = keepUndue s.sched.now (s.slot t) ∨ (s'.slot t = none ∧ ∃ p, w = .event t.code p)

/-- A request that is placed is fetched, from the state with the due slots emptied. -/
theorem fetch_placeRequest (s : State) (r : Request) :
    (s.placeRequest r).fetch = some (r.toOpWord s.regs.al, s.clearDue) := by
  have hq : (s.placeRequest r).quiet = true := (quiet_congr rfl).trans (quiet_clearDue s)
  rw [fetch_of_idle (.inr hq), nextRequest_of_cons (s := s.placeRequest r) (r := r) (rest := s.inbox) rfl]
  rfl

/-- The state with another address latch. -/
def State.withAl (s : State) (a : Index) : State := { s with regs := { s.regs with al := a } }

theorem place_bus (s : State) (k : BitVec 16) :
    s.place (.bus k) = (s.withAl (if keyRs k then keyAl k else s.regs.al)).placeRequest
      (.bus (busWord (keyRs k) (keyRw k) (keyD k))) := by
  simp only [State.place]
  cases keyRs k <;> rfl

theorem placedFrame_clearDue (s : State) (a : Index) (w : OpWord) : PlacedFrame s w (s.withAl a).clearDue :=
  ⟨rfl, rfl, rfl, rfl, rfl, rfl, rfl, rfl, rfl, rfl, rfl, fun t => .inl (clearDue_get (s.withAl a) t)⟩

/-- A bit of the transaction word, field by field (R90). -/
theorem getLsbD_busWord (rs rw : Bool) (d : Byte) (i : Nat) :
    (busWord rs rw d).getLsbD i =
      if i < 8 then d.getLsbD i
      else if i - 8 < 1 then (BitVec.ofBool rw).getLsbD (i - 8)
      else (BitVec.ofBool rs).getLsbD (i - 8 - 1) := by
  show (BitVec.ofBool rs ++ BitVec.ofBool rw ++ d : BitVec (1 + 1 + 8)).getLsbD i = _
  simp only [BitVec.getLsbD_append]

/-- The key of a transaction has the fields of its word and of the latch (R91). -/
theorem keyOfWord_busWord (al : Index) (rs rw : Bool) (d : Byte) :
    keyOfWord al (busWord rs rw d) = busKey rs rw al d := by
  have hrs : (busWord rs rw d).getLsbD 9 = rs := by
    rw [getLsbD_busWord]
    cases rs <;> rfl
  have hrw : (busWord rs rw d).getLsbD 8 = rw := by
    rw [getLsbD_busWord]
    cases rw <;> rfl
  have hd : (busWord rs rw d).extractLsb' 0 8 = d := by
    apply BitVec.eq_of_getLsbD_eq
    intro i hi
    rw [BitVec.getLsbD_extractLsb', getLsbD_busWord, if_pos (by omega)]
    simp [hi]
  rw [keyOfWord, hrs, hrw, hd]

/-- The latch matters to the decoder on the data port alone (R91). -/
theorem decodeBus_busKey_fields (k : BitVec 16) (al : Index) :
    decodeBus (busKey (keyRs k) (keyRw k) (if keyRs k then keyAl k else al) (keyD k)) = decodeBus k := by
  simp only [decodeBus, keyRs_busKey, keyRw_busKey, keyAl_busKey, keyD_busKey]
  cases keyRs k <;> cases keyRw k <;> rfl

/-- A tag code that decodes is the code of a tag. -/
theorem exists_tag_of_decodeEvent {c : BitVec 4} {p : Payload} {i : Instr} (h : decodeEvent c p = .ok i) :
    ∃ t : Tag, t.code = c := by
  have hcodes : ∀ c : BitVec 4, c.toNat < 9 → ∃ t ∈ allTags, t.code = c := by decide
  by_cases hc : 9 ≤ c.toNat
  · rw [decodeEvent_of_unknownTag p hc] at h
    cases h
  · obtain ⟨t, _, ht⟩ := hcodes c (by omega)
    exact ⟨t, ht⟩

/-- The state with one slot, due now, beside those that are not due. -/
theorem place_event (s : State) (t : Tag) (p : Payload) :
    s.place (.event t.code p) = { s.clearDue with sched := { s.clearDue.sched with
      slots := s.clearDue.sched.slots.set t (some { due := s.sched.now, seq := 0, payload := p }) } } := by
  have hfind : allTags.find? (fun u => u.code == t.code) = some t := by cases t <;> rfl
  unfold State.place
  simp only [hfind]
  rfl

/-- An event that is placed is fetched, and its slot is then empty. -/
theorem fetch_place_event (hl : s.fatal = false) (t : Tag) (p : Payload) :
    (s.place (.event t.code p)).fetch = some (.event t.code p, s.clearDue.cancel t) := by
  have hlive : (s.place (.event t.code p)).fatal = false := by
    rw [place_event]
    exact hl
  have hpick : (s.place (.event t.code p)).pickDue = some (t, { due := s.sched.now, seq := 0, payload := p }) := by
    rw [place_event]
    refine pickDue_of_only_due (by simp) (le_refl s.sched.now) fun u hu => ?_
    rw [slot_def, Slots.get_set, if_neg hu, clearDue_get]
    exact futureSlot_keepUndue _ _
  have hset : ∀ x : Option Slot, (s.clearDue.sched.slots.set t x).set t none = s.clearDue.sched.slots.set t none :=
    fun x => Slots.ext_get fun u => by
      simp only [Slots.get_set]
      split <;> rfl
  rw [fetch_of_pickDue hlive hpick, place_event]
  simp only [State.cancel, hset]

theorem placedFrame_event (s : State) (t : Tag) (p : Payload) :
    PlacedFrame s (.event t.code p) (s.clearDue.cancel t) := by
  refine ⟨rfl, rfl, rfl, rfl, rfl, rfl, rfl, rfl, rfl, rfl, rfl, fun u => ?_⟩
  rw [slot_def, cancel_sched, Slots.get_set]
  by_cases hu : u = t
  · exact .inr ⟨if_pos hu, p, by rw [hu]⟩
  · rw [if_neg hu]
    exact .inl (clearDue_get s u)

/-- A word that decodes is fetched once it is placed, as a word that decodes alike. -/
theorem fetch_place {w : OpWord} {i : Instr} (hl : s.fatal = false) (hd : decode w = .ok i) :
    ∃ w' s', (s.place w).fetch = some (w', s') ∧ decode w' = .ok i ∧ PlacedFrame s w s' := by
  cases w with
  | bus k =>
    refine ⟨_, _, (congrArg State.fetch (place_bus s k)).trans (fetch_placeRequest _ _), ?_, placedFrame_clearDue s _ _⟩
    rw [← hd]
    show decode (.bus (keyOfWord _ _)) = _
    rw [keyOfWord_busWord, decode_bus, decode_bus]
    exact congrArg _ (decodeBus_busKey_fields k s.regs.al)
  | event c p =>
    obtain ⟨t, rfl⟩ := exists_tag_of_decodeEvent hd
    exact ⟨_, _, fetch_place_event hl t p, hd, placedFrame_event s t p⟩
  | call c a => exact ⟨_, _, fetch_placeRequest s (.call c a), hd, placedFrame_clearDue s s.regs.al _⟩

/-- Settles O6: `fetch_place` gives the fetched word and the frame; a kept slot is one that was not due. -/
theorem placedOperationIsFetchedNext : Obligations.PlacedOperationIsFetchedNext := by
  intro s w i hl hd
  obtain ⟨w', s', hf, hd', fr⟩ := fetch_place hl hd
  refine ⟨w', s', hf, hd', step_of_decode hf hd', fr.cfg, fr.regs, fr.ctr, fr.sig, fr.geo, fr.now, fr.seq, fr.fatal,
    fr.trace, fr.rdata, fr.inbox, fun t => ⟨fun hn => ?_, fun sl hs => ⟨fun hdue => ?_, fun hfut => ?_⟩⟩⟩
  · rcases fr.slot t with e | ⟨e, _⟩
    · rw [e, hn]
      rfl
    · exact e
  · rcases fr.slot t with e | ⟨e, _⟩
    · rw [e, hs, keepUndue_of_due hdue]
    · exact e
  · refine (fr.slot t).imp_left fun e => ?_
    rw [e, hs, keepUndue_of_future hfut]

end Sys2Proof.Machine

/-! # Proofs: the data port

The stores and reads of a running machine in which nothing is due, the transparent update with the transfer it presents,
the fault, and the statements about them. -/

namespace Sys2Proof.Machine

variable {s : State}

/-! ### Stores and reads -/

theorem setWidth_eq_ofNat_mod (w : Nat) (d : Byte) : d.setWidth w = BitVec.ofNat w (d.toNat % 2 ^ w) := by
  apply BitVec.eq_of_toNat_eq
  rw [BitVec.toNat_setWidth, BitVec.toNat_ofNat, Nat.mod_mod]

theorem setWidth_seven (d : Byte) : d.setWidth 7 = BitVec.ofNat 7 (d.toNat % 128) := setWidth_eq_ofNat_mod 7 d

theorem setWidth_five (d : Byte) : d.setWidth 5 = BitVec.ofNat 5 (d.toNat % 32) := setWidth_eq_ofNat_mod 5 d

/-- Settles O11: each write stores in the register bank and ends with the recompute (`busWrite_updRegs_of_ready`). -/
theorem registerWritesStoreTheMaskedByte : Obligations.RegisterWritesStoreTheMaskedByte := by
  intro s d h
  have hstore := fun f => busWrite_updRegs_of_ready h f
  simp only [← setWidth_seven, ← setWidth_five]
  exact ⟨hstore fun r => { r with htotal := d }, hstore fun r => { r with hdisp := d },
    hstore fun r => { r with hsyncPos := d }, hstore fun r => { r with syncWidth := d },
    hstore fun r => { r with vtotal := d.setWidth 7 }, hstore fun r => { r with vtotalAdj := d.setWidth 5 },
    hstore fun r => { r with vdisp := d.setWidth 7 }, hstore fun r => { r with vsyncPos := d.setWidth 7 },
    hstore fun r => { r with mode := d }, hstore fun r => { r with maxRas := d.setWidth 5 },
    hstore fun r => { r with curStart := d.setWidth 7 }, hstore fun r => { r with curEnd := d.setWidth 5 }⟩

/-- Settles O13: both writes store in the register bank (`setHigh_eq`), and neither register is read by `deriveGeom`. -/
theorem highAddressByteWrites : Obligations.HighAddressByteWrites := by
  intro s d h
  rw [← setHigh_eq, ← setHigh_eq]
  exact ⟨⟨busWrite_updRegs_of_ready h fun r => { r with dispStart := setHigh r.dispStart d }, rfl⟩,
    ⟨busWrite_updRegs_of_ready h fun r => { r with cursorAddr := setHigh r.cursorAddr d }, rfl⟩⟩

/-- Settles O15. -/
theorem undefinedIndexWritesStoreNothing : Obligations.UndefinedIndexWritesStoreNothing := fun _ _ _ h =>
  busWrite_id_of_ready h

/-- The bits of the status byte (R98). -/
theorem statusByte_bits (b7 b6 b5 : Bool) :
    let b : Byte := BitVec.ofBool b7 ++ BitVec.ofBool b6 ++ BitVec.ofBool b5 ++ (0 : BitVec 5)
    b.getLsbD 7 = b7 ∧ b.getLsbD 6 = b6 ∧ b.getLsbD 5 = b5 ∧ ∀ j < 5, b.getLsbD j = false := by
  revert b7 b6 b5
  decide

/-- Settles O23: the byte is `statusByte`, and the read has no side effect. -/
theorem statusReadReturnsTheThreeFlags : Obligations.StatusReadReturnsTheThreeFlags := fun s h =>
  ⟨s.statusByte, busRead_of_ready h State.statusByte (f := id) rfl, statusByte_bits _ _ _⟩

/-- Settles O24: each of these reads is `readsZero`. -/
theorem writeOnlyAndUndefinedReadsReturnZero : Obligations.WriteOnlyAndUndefinedReadsReturnZero := by
  intro s al h i hi
  have hzero : readsZero s = .next { s with rdata := 0 } := busRead_of_ready h (fun _ => 0) (f := id) rfl
  fin_cases hi <;> exact hzero

/-- Settles O26: the reads have no side effect; `highByte_eq` and `lowByte_eq` give their bytes. -/
theorem cursorAddressReadsBack : Obligations.CursorAddressReadsBack := by
  intro s h
  rw [← highByte_eq, ← lowByte_eq]
  exact ⟨busRead_of_ready h (fun u => highByte u.regs.cursorAddr) (f := id) rfl,
    busRead_of_ready h (fun u => lowByte u.regs.cursorAddr) (f := id) rfl⟩

/-! ### States in which some slots alone are due -/

/-- Nothing is due but slots of the tags `T`. -/
def State.QuietBut (T : List Tag) (s : State) : Prop := ∀ u, u ∉ T → futureSlot s.sched.now (s.slot u) = true

theorem quietBut_of_quiet (T : List Tag) (h : s.quiet = true) : s.QuietBut T := fun u _ => (quiet_iff s).1 h u

/-- An operation that schedules ahead, or one of the tags `T`, makes nothing else due. -/
theorem State.QuietBut.rearms {T U : List Tag} {s' : State} (h : s.QuietBut T) (k : Rearms U s s')
    (hU : ∀ u ∈ U, u.ahead = true ∨ u ∈ T) : s'.QuietBut T := by
  intro u hu
  rw [k.now]
  rcases k.slot u with e | ⟨hmem, hf⟩
  · rw [e]
    exact h u hu
  · rwa [freshSlot, if_pos ((hU u hmem).resolve_right hu)] at hf

theorem rearms_recompute (s : State) (r : Bool) : Rearms [.line] s (s.recompute r) := by
  rcases recompute_cases s r with ⟨_, _, e⟩ | ⟨_, e⟩ | ⟨_, _, e⟩ <;> rw [e]
  · exact Rearms.of_sched_eq rfl
  · exact Rearms.of_sched_eq (by simp)
  · exact (rearms_schedule s .line fun _ => linePeriod_pos s).trans
      (Rearms.of_sched_eq (T := []) (by simp [State.linePeriod])) (List.nil_subset _)

theorem closeWrite_of_live (hl : s.fatal = false) : s.closeWrite = (s.recompute false).runDue := by
  simp [State.closeWrite, hl]

theorem closeWrite_of_fatal (hf : s.fatal = true) : s.closeWrite = s := by
  simp [State.closeWrite, hf]

/-! ### The transfer of an address in the immediate mode (R273, R276) -/

/-- The transfer of an address that is presented in the immediate mode emits it and does nothing else. -/
theorem runDue_of_presented {p : Payload} {q : Nat} (hl : s.fatal = false) (hm : s.regs.mode &&& 0x88 = 0x88)
    (hs : s.slot .updTrans = some { due := s.sched.now, seq := q, payload := p }) (hq : s.QuietBut [.updTrans]) :
    s.runDue = (s.cancel .updTrans).emit (.update p.addr p.strobe) := by
  have hpick := pickDue_of_only_due hs le_rfl fun u hu => hq u (by simpa using hu)
  have hfire : evUpdTrans p.addr p.strobe (s.cancel .updTrans) = (s.cancel .updTrans).emit (.update p.addr p.strobe) := by
    rw [evUpdTrans_eq, if_neg]
    · rfl
    · rw [cancel_regs, hm]
      rintro ⟨_, h⟩
      revert h
      decide
  have hquiet : ((s.cancel .updTrans).emit (.update p.addr p.strobe)).quiet = true := by
    refine (quiet_iff _).2 fun u => ?_
    rw [emit_sched, cancel_sched, Slots.get_set]
    by_cases hu : u = .updTrans
    · rw [if_pos hu, futureSlot_none]
    · rw [if_neg hu]
      exact hq u (by simpa using hu)
  rw [runDue_round hl hpick]
  show (evUpdTrans p.addr p.strobe (s.cancel .updTrans)).runDue = _
  rw [hfire, runDue_of_quiet hquiet]

theorem quietBut_presented (hq : s.quiet = true) (p : Payload) : (s.scheduleWith .updTrans 0 p).QuietBut [.updTrans] :=
  (quietBut_of_quiet _ hq).rearms (rearms_scheduleWith s .updTrans p fun h => absurd h Bool.false_ne_true) (by decide)

/-- The close of a write that presents an address: the recompute, then the transfer. -/
theorem closeWrite_of_presented (hl : s.fatal = false) (hq : s.quiet = true) (hm : s.regs.mode &&& 0x88 = 0x88)
    (p : Payload) :
    (s.scheduleWith .updTrans 0 p).closeWrite =
      (((s.scheduleWith .updTrans 0 p).recompute false).cancel .updTrans).emit (.update p.addr p.strobe) := by
  have hr := rearms_recompute (s.scheduleWith .updTrans 0 p) false
  rw [closeWrite_of_live (s := s.scheduleWith .updTrans 0 p) hl]
  refine runDue_of_presented (q := s.sched.seq) (by simpa using hl) (by simpa using hm) ?_
    ((quietBut_presented hq p).rearms hr (by decide))
  rw [hr.slot_eq (by decide), hr.now]
  simp

/-- A read that presents an address: its byte, then the transfer. -/
theorem runDue_of_presented_read (hl : s.fatal = false) (hq : s.quiet = true) (hm : s.regs.mode &&& 0x88 = 0x88)
    (p : Payload) (b : Byte) :
    ({ s.scheduleWith .updTrans 0 p with rdata := b } : State).runDue =
      { ((s.scheduleWith .updTrans 0 p).cancel .updTrans).emit (.update p.addr p.strobe) with rdata := b } := by
  have hquiet : State.QuietBut [.updTrans] { s.scheduleWith .updTrans 0 p with rdata := b } :=
    (quietBut_presented hq p).rearms (U := []) (Rearms.of_sched_eq rfl) (by simp)
  rw [runDue_of_presented (s := { s.scheduleWith .updTrans 0 p with rdata := b }) (p := p) (q := s.sched.seq) hl hm
    (by simp) hquiet]
  rfl

/-! ### CR18, CR19 and CR31 -/

theorem writeUpdateAddr_of_opaque (ht : s.cfg.transparent = false) (a : Addr) : s.writeUpdateAddr a = s := by
  simp [State.writeUpdateAddr, ht]

theorem writeUpdateAddr_of_transparent (ht : s.cfg.transparent = true) (a : Addr) :
    s.writeUpdateAddr a =
      if s.tPhi2 then (s.updRegs fun r => { r with updateAddr := a }).callOnUpdateAddress s.updStrobe
      else s.updRegs fun r => { r with updateAddr := a } := by
  simp only [State.writeUpdateAddr, ht, if_true]
  rfl

theorem writeUpdateAddr_of_store (ht : s.cfg.transparent = true) (hm : s.regs.mode &&& 0x88 ≠ 0x88) (a : Addr) :
    s.writeUpdateAddr a = s.updRegs fun r => { r with updateAddr := a } := by
  rw [writeUpdateAddr_of_transparent ht, if_neg (by rwa [tPhi2_iff])]

theorem writeUpdateAddr_of_present (ht : s.cfg.transparent = true) (hm : s.regs.mode &&& 0x88 = 0x88) (a : Addr) :
    s.writeUpdateAddr a = (s.updRegs fun r => { r with updateAddr := a }).callOnUpdateAddress s.updStrobe := by
  rw [writeUpdateAddr_of_transparent ht, if_pos ((tPhi2_iff s).2 hm)]

/-- A write of a half of the update address, whichever half (R141, R142). -/
theorem busWrite_updateAddr_of_ready (h : s.Ready) (f : State → Addr) :
    (s.cfg.transparent = false → busWrite (fun u => u.writeUpdateAddr (f u)) s = .next (s.recompute false)) ∧
    (s.cfg.transparent = true → s.regs.mode &&& 0x88 ≠ 0x88 →
      busWrite (fun u => u.writeUpdateAddr (f u)) s =
        .next ((s.updRegs fun r => { r with updateAddr := f s }).recompute false)) ∧
    (s.cfg.transparent = true → s.regs.mode &&& 0x88 = 0x88 → s.cfg.updHandler = true →
      busWrite (fun u => u.writeUpdateAddr (f u)) s =
        .next (((((s.updRegs fun r => { r with updateAddr := f s }).scheduleWith .updTrans 0
          { addr := f s, strobe := s.updStrobe }).recompute false).cancel .updTrans).emit
            (.update (f s) s.updStrobe))) := by
  obtain ⟨hl, hq⟩ := h
  have hq' : ∀ a : Addr, (s.updRegs fun r => { r with updateAddr := a }).quiet = true := fun _ => (quiet_congr rfl).trans hq
  refine ⟨fun ht => ?_, fun ht hm => ?_, fun ht hm hh => ?_⟩ <;> rw [busWrite_of_live hl]
  · rw [writeUpdateAddr_of_opaque ht, closeWrite_of_quiet hl hq]
  · rw [writeUpdateAddr_of_store ht hm, closeWrite_of_quiet (s := s.updRegs _) hl (hq' _)]
  · rw [writeUpdateAddr_of_present ht hm, callOnUpdateAddress_of_handler (s := s.updRegs _) hh]
    exact congrArg _ (closeWrite_of_presented (s := s.updRegs fun r => { r with updateAddr := f s }) hl (hq' _) hm _)

/-- Settles O16: `busWrite_updateAddr_of_ready` for each half. -/
theorem updateAddressWrites : Obligations.UpdateAddressWrites := by
  intro s d h
  rw [← setHigh_eq, ← setLow_eq]
  obtain ⟨hi0, hi1, hi2⟩ := busWrite_updateAddr_of_ready h fun u => setHigh u.regs.updateAddr d
  obtain ⟨lo0, lo1, lo2⟩ := busWrite_updateAddr_of_ready h fun u => setLow u.regs.updateAddr d
  exact ⟨fun ht => ⟨hi0 ht, lo0 ht⟩,
    fun ht => ⟨fun hm => ⟨hi1 ht hm, lo1 ht hm⟩, fun hm hh => ⟨hi2 ht hm hh, lo2 ht hm hh⟩⟩⟩

/-- CR8 bit 3 is set in both modes of an update (R96). -/
theorem transp_of_mode (h : s.regs.mode &&& 0x88 = 0x88 ∨ s.regs.mode &&& 0x88 = 0x08) : s.transp = true := by
  have hbit : ∀ m : Byte, (m &&& 0x88).getLsbD 3 = m.getLsbD 3 := by decide
  rw [State.transp, ← hbit]
  rcases h with h | h <;> rw [h] <;> rfl

theorem transparentUpdate_of_disabled (h : s.cfg.transparent = false ∨ s.regs.mode.getLsbD 3 = false) :
    s.transparentUpdate = s := by
  rw [State.transparentUpdate, if_neg]
  rintro ⟨ht, hm⟩
  rcases h with h | h
  · exact Bool.false_ne_true (h.symm.trans ht)
  · exact Bool.false_ne_true (h.symm.trans hm)

theorem transparentUpdate_of_immediate (ht : s.cfg.transparent = true) (hm : s.regs.mode &&& 0x88 = 0x88) :
    s.transparentUpdate = s.incUpdateAddr.callOnUpdateAddress s.updStrobe := by
  rw [State.transparentUpdate, if_pos ⟨ht, transp_of_mode (.inl hm)⟩, if_pos ((tPhi2_iff s).2 hm)]

theorem transparentUpdate_of_blanking (ht : s.cfg.transparent = true) (hm : s.regs.mode &&& 0x88 = 0x08) :
    s.transparentUpdate = if s.ctr.updateReady then (s.setUpdateReady false).updAdrTimer else s := by
  rw [State.transparentUpdate, if_pos ⟨ht, transp_of_mode (.inr hm)⟩, if_neg]
  rw [tPhi2_iff, hm]
  decide

/-- Settles O17: the update does nothing (`transparentUpdate_of_disabled`). -/
theorem cr31IsInertOutsideTransparentMode : Obligations.Cr31IsInertOutsideTransparentMode := by
  intro s d h hoff
  have hu := transparentUpdate_of_disabled hoff
  refine ⟨?_, ?_⟩
  · exact (busRead_of_ready h (fun _ => 0) (f := State.transparentUpdate) (by rw [hu])).trans (by rw [hu])
  · refine (busWrite_of_live h.1 State.transparentUpdate).trans ?_
    rw [hu, closeWrite_of_quiet h.1 h.2]

/-- Settles O18: the update presents the next address, and the transfer fires at once (`runDue_of_presented`). -/
theorem cr31ImmediateUpdate : Obligations.Cr31ImmediateUpdate := by
  intro s d ⟨hl, hq⟩ ht hh hm
  have hu := transparentUpdate_of_immediate ht hm
  rw [callOnUpdateAddress_of_handler (s := s.incUpdateAddr) hh] at hu
  have hq' : s.incUpdateAddr.quiet = true := (quiet_congr rfl).trans hq
  refine ⟨?_, ?_⟩
  · refine (busRead_of_live hl (fun _ => 0) State.transparentUpdate).trans (congrArg Host.Outcome.next ?_)
    rw [hu]
    exact runDue_of_presented_read (s := s.incUpdateAddr) hl hq' hm _ 0
  · refine (busWrite_of_live hl State.transparentUpdate).trans ?_
    rw [hu, closeWrite_of_presented (s := s.incUpdateAddr) hl hq' hm]
    rfl

/-- Settles O19: what the update leaves (`transparentUpdate_of_blanking`) has nothing due, for the delay is positive. -/
theorem cr31BlankingRequest : Obligations.Cr31BlankingRequest := by
  intro s d ⟨hl, hq⟩ ht hd hm u
  have hu : s.transparentUpdate = u := by
    rw [transparentUpdate_of_blanking ht hm]
    cases hr : s.ctr.updateReady
    · simp [u, hr]
    · cases hde : s.sig.de <;> simp [u, hr, hde, State.updAdrTimer, State.setUpdateReady, ht]
  have hlive : u.fatal = false := by
    simp only [u]
    split_ifs <;> exact hl
  have hquiet : u.quiet = true := by
    simp only [u]
    split_ifs
    · exact hq
    · exact (quiet_congr rfl).trans hq
    · exact quiet_schedule ((quiet_congr rfl).trans hq) .updAdr hd
  refine ⟨?_, ?_⟩
  · refine (busRead_of_live hl (fun _ => 0) State.transparentUpdate).trans ?_
    rw [hu]
    exact congrArg _ (runDue_of_quiet ((quiet_congr rfl).trans hquiet))
  · refine (busWrite_of_live hl State.transparentUpdate).trans ?_
    rw [hu, closeWrite_of_quiet hlive hquiet]

/-! ### The fault (R301, R302) -/

/-- Settles O20: the update raises the fault (`callOnUpdateAddress_of_noHandler`), and then neither close runs. -/
theorem missingHandlerRaisesFatal : Obligations.MissingHandlerRaisesFatal := by
  intro s d hl hh
  refine ⟨congrArg _ ((unlessFatal_of_live hl _).trans (callOnUpdateAddress_of_noHandler hh _)), fun ht hm => ?_⟩
  rw [← setHigh_eq, ← setLow_eq]
  have hwrite : ∀ f : State → Addr, busWrite (fun u => u.writeUpdateAddr (f u)) s =
      .next { s with fatal := true, regs := { s.regs with updateAddr := f s } } := by
    intro f
    rw [busWrite_of_live hl, writeUpdateAddr_of_present ht hm, callOnUpdateAddress_of_noHandler (s := s.updRegs _) hh,
      closeWrite_of_fatal rfl]
    rfl
  have hu : s.transparentUpdate = { s.incUpdateAddr with fatal := true } :=
    (transparentUpdate_of_immediate ht hm).trans (callOnUpdateAddress_of_noHandler (s := s.incUpdateAddr) hh _)
  refine ⟨hwrite fun u => setHigh u.regs.updateAddr d, hwrite fun u => setLow u.regs.updateAddr d, ?_, ?_⟩
  · refine (busWrite_of_live hl State.transparentUpdate).trans ?_
    rw [hu, closeWrite_of_fatal rfl]
    rfl
  · refine (busRead_of_live hl (fun _ => 0) State.transparentUpdate).trans ?_
    rw [hu, runDue_of_fatal rfl]
    rfl

theorem unlessFatal_of_fatal (hf : s.fatal = true) (f : State → State) : s.unlessFatal f = s := by
  simp [State.unlessFatal, hf]

/-! ### The forms that an operation can have (R120, R302) -/

/-- The side effects of a bus read. -/
inductive ReadEffect : (State → State) → Prop
  | none : ReadEffect id
  | unlatch : ReadEffect State.clearLpenLatched
  | update : ReadEffect State.transparentUpdate

/-- What a data-port write stores: registers other than the latch and the light-pen address, a half of the update address,
or the update of CR31. -/
inductive WriteStore : (State → State) → Prop
  | regs (g : RegisterBank → RegisterBank) (hal : ∀ r, (g r).al = r.al) (hlp : ∀ r, (g r).lpenAddr = r.lpenAddr) :
      WriteStore fun s => s.updRegs g
  | address (a : State → Addr) : WriteStore fun s => s.writeUpdateAddr (a s)
  | update : WriteStore State.transparentUpdate

/-- What an operation that is neither a bus read nor a data-port write does in a running machine. -/
inductive OtherBody : Instr → (State → State) → Prop
  | sel (d : Byte) : OtherBody (.sel d) fun s => (s.updRegs fun r => { r with al := latchIndex s.cfg d }).runDue
  | event {i : Instr} (hi : i.isEvent = true) (p : Payload) (t : Tag) : OtherBody i fun s => s.fire p t
  | clk : OtherBody .clk fun s => s.tick.runDue
  | reset : OtherBody .reset fun s => (s.resetBanks.lowerSignals.clearSlotsAndGeom.schedule .line 1).runDue
  | lpstb : OtherBody .lpstb fun s => (s.schedule .lpen 1).runDue
  | scan (y : Nat) : OtherBody (.scan y) fun s => ((s.emit (.row (s.rowRecord y))).advanceCda y).runDue
  | frame (y0 y1 : Nat) : OtherBody (.frame y0 y1) fun s =>
      (if s.geo.valid then scanRows (y1 + 1 - y0) y0 (s.frameCda y0) else s).runDue
  | restore : OtherBody .restore fun s => (s.recompute true).runDue

/-- The forms of an operation: a bus read, a data-port write, or a body that the fault holds back. -/
inductive Form (i : Instr) : Prop
  | read (hi : i.isRead = true) {v : State → Byte} {f : State → State} (hf : ReadEffect f)
      (h : ∀ s, exec i s = busRead v f s)
  | write (hr : i.isRead = false) (hc : i ≠ .clk) {f : State → State} (hf : WriteStore f)
      (h : ∀ s, exec i s = busWrite f s)
  | other (hr : i.isRead = false) {f : State → State} (hf : OtherBody i f)
      (h : ∀ s, exec i s = .next (s.unlessFatal f))

theorem Form.store {i : Instr} (hr : i.isRead = false) (hc : i ≠ .clk) (g : RegisterBank → RegisterBank)
    (h : ∀ s, exec i s = busWrite (fun u => u.updRegs g) s) (hal : ∀ r, (g r).al = r.al)
    (hlp : ∀ r, (g r).lpenAddr = r.lpenAddr) : Form i :=
  .write hr hc (.regs g hal hlp) h

/-- Every operation has one of the forms. -/
theorem exec_form (i : Instr) : Form i := by
  cases i
  case sel d => exact .other rfl (.sel d) fun _ => rfl
  case rdst | rdCr0 | rdCr1 | rdCr2 | rdCr3 | rdCr4 | rdCr5 | rdCr6 | rdCr7 | rdCr8 | rdCr9 | rdCr10 | rdCr11 | rdCr12
      | rdCr13 | rdCr14 | rdCr15 | rdCr18 | rdCr19 | rdUndef =>
    exact .read rfl .none fun _ => rfl
  case rdCr16 | rdCr17 => exact .read rfl .unlatch fun _ => rfl
  case rdCr31 => exact .read rfl .update fun _ => rfl
  case wrCr0 d | wrCr1 d | wrCr2 d | wrCr3 d | wrCr4 d | wrCr5 d | wrCr6 d | wrCr7 d | wrCr8 d | wrCr9 d | wrCr10 d
      | wrCr11 d | wrCr12 d | wrCr13 d | wrCr14 d | wrCr15 d =>
    exact .store rfl (by simp) _ (fun _ => rfl) (fun _ => rfl) fun _ => rfl
  case wrCr16 d | wrCr17 d | wrUndef al d => exact .store rfl (by simp) id (fun _ => rfl) (fun _ => rfl) fun _ => rfl
  case wrCr18 d => exact .write rfl (by simp) (.address fun s => setHigh s.regs.updateAddr d) fun _ => rfl
  case wrCr19 d => exact .write rfl (by simp) (.address fun s => setLow s.regs.updateAddr d) fun _ => rfl
  case wrCr31 d => exact .write rfl (by simp) .update fun _ => rfl
  case evLine => exact .other rfl (.event rfl Payload.empty .line) fun _ => rfl
  case evDeOff => exact .other rfl (.event rfl Payload.empty .deOff) fun _ => rfl
  case evCurOn => exact .other rfl (.event rfl Payload.empty .curOn) fun _ => rfl
  case evCurOff => exact .other rfl (.event rfl Payload.empty .curOff) fun _ => rfl
  case evHsOn => exact .other rfl (.event rfl Payload.empty .hsOn) fun _ => rfl
  case evHsOff => exact .other rfl (.event rfl Payload.empty .hsOff) fun _ => rfl
  case evLpen => exact .other rfl (.event rfl Payload.empty .lpen) fun _ => rfl
  case evUpdAdr => exact .other rfl (.event rfl Payload.empty .updAdr) fun _ => rfl
  case evUpdTrans a b => exact .other rfl (.event rfl { addr := a, strobe := b } .updTrans) fun _ => rfl
  case clk => exact .other rfl .clk fun _ => rfl
  case reset => exact .other rfl .reset fun _ => rfl
  case lpstb => exact .other rfl .lpstb fun _ => rfl
  case scan y => exact .other rfl (.scan y) fun _ => rfl
  case frame y0 y1 => exact .other rfl (.frame y0 y1) fun _ => rfl
  case restore => exact .other rfl .restore fun _ => rfl

/-- Settles O21, form by form. -/
theorem fatalIsAbsorbing : Obligations.FatalIsAbsorbing := by
  intro i s hf
  rcases exec_form i with ⟨hi, _, h⟩ | ⟨hi, _, _, h⟩ | ⟨hi, _, h⟩ <;> rw [h, hi]
  · exact busRead_of_fatal hf _ _
  · exact busWrite_of_fatal hf _
  · exact congrArg _ (unlessFatal_of_fatal hf _)

end Sys2Proof.Machine

/-! # Proofs: what operations keep

Three relations between the states before and after: what every operation keeps (configuration, requests, time, the levels
that the records tell), what the operations between two clocks leave alone besides, and what the events leave alone. From
them the statements about all operations and about the clock. -/

namespace Sys2Proof.Machine

variable {s : State}

/-! ### The levels that the records tell (R54, R58) -/

/-- The trace has grown, and the new records lead from the levels before to the levels after. -/
def Tracks (s s' : State) : Prop := ∃ l, s'.trace = s.trace ++ l ∧ trackLevels s.sig l = some s'.sig

theorem trackLevels_append {g g' g'' : Signals} {l m : List Output} (hl : trackLevels g l = some g')
    (hm : trackLevels g' m = some g'') : trackLevels g (l ++ m) = some g'' := by
  induction l generalizing g with
  | nil =>
    cases hl
    exact hm
  | cons o l ih =>
    unfold trackLevels at hl
    rw [List.cons_append]
    unfold trackLevels
    cases ho : applyRecord g o with
    | none => simp [ho] at hl
    | some g1 =>
      rw [ho] at hl
      exact ih hl

theorem Tracks.of_eq {s s' : State} (ht : s'.trace = s.trace) (hs : s'.sig = s.sig) : Tracks s s' :=
  ⟨[], by rw [ht, List.append_nil], by rw [hs]; rfl⟩

theorem Tracks.trans {s s' s'' : State} (h : Tracks s s') (k : Tracks s' s'') : Tracks s s'' := by
  obtain ⟨l, hl, hg⟩ := h
  obtain ⟨m, hm, hg'⟩ := k
  exact ⟨l ++ m, by rw [hm, hl, List.append_assoc], trackLevels_append hg hg'⟩

/-- A record that is not a level is appended. -/
theorem Tracks.append {s s' : State} {o : Output} (ho : applyRecord s.sig o = some s.sig) (ht : s'.trace = s.trace ++ [o])
    (hs : s'.sig = s.sig) : Tracks s s' :=
  ⟨[o], ht, by simp [trackLevels, ho, hs]⟩

theorem tracks_setHsync (s : State) (v : Bool) : Tracks s (s.setHsync v) := by
  rcases setHsync_cases s v with ⟨_, e⟩ | ⟨h, e⟩ <;> rw [e]
  · exact .of_eq rfl rfl
  · exact ⟨[.hsync v], rfl, by simp [trackLevels, applyRecord, h]⟩

theorem tracks_setVsync (s : State) (v : Bool) : Tracks s (s.setVsync v) := by
  rcases setVsync_cases s v with ⟨_, e⟩ | ⟨h, e⟩ <;> rw [e]
  · exact .of_eq rfl rfl
  · exact ⟨[.vsync v], rfl, by simp [trackLevels, applyRecord, h]⟩

theorem tracks_setCur (s : State) (v : Bool) : Tracks s (s.setCur v) := by
  rcases setCur_cases s v with ⟨_, e⟩ | ⟨h, e⟩ <;> rw [e]
  · exact .of_eq rfl rfl
  · exact ⟨[.cursor v], rfl, by simp [trackLevels, applyRecord, h]⟩

theorem tracks_setDe (s : State) (v : Bool) : Tracks s (s.setDe v) := by
  by_cases h : s.sig.de = v
  · rw [setDe_of_level h]
    exact .of_eq rfl rfl
  · rw [setDe_eq, if_neg h]
    exact ⟨[.de v], rfl, by simp [trackLevels, applyRecord, h]⟩

/-! ### What every operation keeps -/

/-- Configuration, requests and time stand, the records tell the levels, and slots are written with nothing past. -/
structure Keeps (s s' : State) : Prop where
  cfg : s'.cfg = s.cfg
  inbox : s'.inbox = s.inbox
  tracks : Tracks s s'
  rearms : Rearms allTags s s'

theorem Keeps.trans {s s' s'' : State} (h : Keeps s s') (k : Keeps s' s'') : Keeps s s'' :=
  ⟨k.cfg.trans h.cfg, k.inbox.trans h.inbox, h.tracks.trans k.tracks, h.rearms.trans k.rearms (List.Subset.refl _)⟩

/-- An operation that leaves configuration, requests, records, levels and scheduler. -/
theorem Keeps.of_eq {s s' : State} (hc : s'.cfg = s.cfg) (hi : s'.inbox = s.inbox) (ht : s'.trace = s.trace)
    (hs : s'.sig = s.sig) (hd : s'.sched = s.sched) : Keeps s s' :=
  ⟨hc, hi, .of_eq ht hs, .of_sched_eq hd⟩

theorem Keeps.refl (s : State) : Keeps s s := .of_eq rfl rfl rfl rfl rfl

theorem Rearms.all {T : List Tag} {s s' : State} (h : Rearms T s s') : Rearms allTags s s' :=
  h.mono fun u _ => mem_allTags u

theorem keeps_scheduleWith (s : State) (t : Tag) {d : Nat} (p : Payload) (hd : t.ahead = true → 0 < d) :
    Keeps s (s.scheduleWith t d p) :=
  ⟨rfl, rfl, .of_eq rfl rfl, (rearms_scheduleWith s t p hd).all⟩

theorem keeps_schedule (s : State) (t : Tag) {d : Nat} (hd : t.ahead = true → 0 < d) : Keeps s (s.schedule t d) :=
  keeps_scheduleWith s t _ hd

theorem keeps_cancel (s : State) (t : Tag) : Keeps s (s.cancel t) :=
  ⟨rfl, rfl, .of_eq rfl rfl, (rearms_cancel s t).all⟩

theorem keeps_setHsync (s : State) (v : Bool) : Keeps s (s.setHsync v) :=
  ⟨setHsync_cfg s v, setHsync_inbox s v, tracks_setHsync s v, .of_sched_eq (setHsync_sched s v)⟩

theorem keeps_setVsync (s : State) (v : Bool) : Keeps s (s.setVsync v) :=
  ⟨setVsync_cfg s v, setVsync_inbox s v, tracks_setVsync s v, .of_sched_eq (setVsync_sched s v)⟩

theorem keeps_setCur (s : State) (v : Bool) : Keeps s (s.setCur v) :=
  ⟨setCur_cfg s v, setCur_inbox s v, tracks_setCur s v, .of_sched_eq (setCur_sched s v)⟩

theorem keeps_setDe (s : State) (v : Bool) : Keeps s (s.setDe v) :=
  ⟨setDe_cfg s v, setDe_inbox s v, tracks_setDe s v, (rearms_setDe s v).all⟩

theorem keeps_callOnUpdateAddress (s : State) (b : Bool) : Keeps s (s.callOnUpdateAddress b) :=
  ⟨callOnUpdateAddress_cfg s b, callOnUpdateAddress_inbox s b,
    .of_eq (callOnUpdateAddress_trace s b) (callOnUpdateAddress_sig s b), (rearms_callOnUpdateAddress s b).all⟩

theorem rearms_updAdrTimer (s : State) : Rearms [.updAdr] s s.updAdrTimer := by
  rcases updAdrTimer_cases s with ⟨_, e⟩ | ⟨_, _, e⟩ <;> rw [e]
  · exact .of_sched_eq rfl
  · exact rearms_schedule_now s rfl _

theorem keeps_updAdrTimer (s : State) : Keeps s s.updAdrTimer :=
  ⟨updAdrTimer_cfg s, updAdrTimer_inbox s, .of_eq (updAdrTimer_trace s) (updAdrTimer_sig s), (rearms_updAdrTimer s).all⟩

theorem tracks_emitGeom (s : State) (g : GeomNums) : Tracks s (s.emitGeom g) := by
  unfold State.emitGeom
  split
  · exact .append rfl rfl rfl
  · exact .of_eq rfl rfl

theorem keeps_recompute (s : State) (r : Bool) : Keeps s (s.recompute r) := by
  refine ⟨recompute_cfg s r, recompute_inbox s r, ?_, (rearms_recompute s r).all⟩
  have hg := tracks_emitGeom s s.deriveGeom
  rcases recompute_cases s r with ⟨_, _, e⟩ | ⟨_, e⟩ | ⟨_, _, e⟩ <;> rw [e]
  · exact .of_eq rfl rfl
  · exact hg.trans (.of_eq rfl rfl)
  · exact hg.trans (.of_eq rfl rfl)

/-! ### What the operations between two clocks leave alone (R325, R334) -/

/-- The slots that an operation between two clocks can write. -/
def idleTags : List Tag := [.line, .lpen, .updAdr, .updTrans]

/-- The engine stands still: the levels, the counters but `cc`, `cda` and two flags, the light-pen address, and the one-shots
of the line. -/
structure Still (s s' : State) : Prop extends Keeps s s' where
  sig : s'.sig = s.sig
  ctr : s'.ctr = { s.ctr with
    cc := s'.ctr.cc, cda := s'.ctr.cda, lpenLatched := s'.ctr.lpenLatched, updateReady := s'.ctr.updateReady }
  cc : s'.ctr.cc = s.ctr.cc ∨ s'.ctr.cc = 0
  lpenAddr : s'.regs.lpenAddr = s.regs.lpenAddr
  slot : ∀ u, u ∉ idleTags → s'.slot u = s.slot u
  lineArmed : (s.slot .line).isSome = true → (s'.slot .line).isSome = true

theorem Still.trans {s s' s'' : State} (h : Still s s') (k : Still s' s'') : Still s s'' where
  toKeeps := h.toKeeps.trans k.toKeeps
  sig := k.sig.trans h.sig
  ctr := by rw [k.ctr, h.ctr]
  cc := by
    rcases k.cc with e | e
    · rw [e]
      exact h.cc
    · exact .inr e
  lpenAddr := k.lpenAddr.trans h.lpenAddr
  slot := fun u hu => (k.slot u hu).trans (h.slot u hu)
  lineArmed := k.lineArmed ∘ h.lineArmed

/-- An operation that leaves the scheduler, the levels, the records and all counters but those that `Still` frees. -/
theorem Still.of_eq {s s' : State} (hk : Keeps s s') (hs : s'.sig = s.sig) (hd : s'.sched = s.sched)
    (hcc : s'.ctr.cc = s.ctr.cc)
    (hctr : s'.ctr = { s.ctr with
      cc := s'.ctr.cc, cda := s'.ctr.cda, lpenLatched := s'.ctr.lpenLatched, updateReady := s'.ctr.updateReady })
    (hl : s'.regs.lpenAddr = s.regs.lpenAddr) : Still s s' :=
  ⟨hk, hs, hctr, .inl hcc, hl, fun u _ => by rw [slot_def, slot_def, hd], by rw [slot_def, slot_def, hd]; exact id⟩

theorem Still.refl (s : State) : Still s s := .of_eq (.refl s) rfl rfl rfl rfl rfl

/-- An operation that writes only slots of `idleTags` other than LINE. -/
theorem Still.of_rearms {s s' : State} {T : List Tag} (hk : Keeps s s') (hs : s'.sig = s.sig) (hctr : s'.ctr = s.ctr)
    (hr : s'.regs = s.regs) (k : Rearms T s s') (hT : ∀ t ∈ T, t ∈ idleTags ∧ t ≠ .line) : Still s s' where
  toKeeps := hk
  sig := hs
  ctr := by rw [hctr]
  cc := .inl (by rw [hctr])
  lpenAddr := by rw [hr]
  slot := fun u hu => k.slot_eq fun hmem => hu (hT u hmem).1
  lineArmed := by
    rw [k.slot_eq fun hmem => (hT .line hmem).2 rfl]
    exact id

theorem still_cancel (s : State) {t : Tag} (ht : t ∈ idleTags ∧ t ≠ .line) : Still s (s.cancel t) :=
  .of_rearms (keeps_cancel s t) rfl rfl rfl (rearms_cancel s t) fun u hu => by rwa [List.mem_singleton.1 hu]

theorem still_schedule_lpen (s : State) : Still s (s.schedule .lpen 1) :=
  .of_rearms (keeps_schedule s .lpen fun _ => one_pos) rfl rfl rfl (rearms_schedule s .lpen fun _ => one_pos) (by decide)

theorem still_updRegs (s : State) {f : RegisterBank → RegisterBank} (h : (f s.regs).lpenAddr = s.regs.lpenAddr) :
    Still s (s.updRegs f) :=
  .of_eq (.of_eq rfl rfl rfl rfl rfl) rfl rfl rfl rfl h

theorem still_callOnUpdateAddress (s : State) (b : Bool) : Still s (s.callOnUpdateAddress b) :=
  .of_rearms (keeps_callOnUpdateAddress s b) (callOnUpdateAddress_sig s b) (callOnUpdateAddress_ctr s b)
    (callOnUpdateAddress_regs s b) (rearms_callOnUpdateAddress s b) (by decide)

theorem still_updAdrTimer (s : State) : Still s s.updAdrTimer :=
  .of_rearms (keeps_updAdrTimer s) (updAdrTimer_sig s) (updAdrTimer_ctr s) (updAdrTimer_regs s) (rearms_updAdrTimer s)
    (by decide)

theorem still_incUpdateAddr (s : State) : Still s s.incUpdateAddr :=
  .of_eq (.of_eq rfl rfl rfl rfl rfl) rfl rfl rfl rfl rfl

theorem still_setUpdateReady (s : State) (v : Bool) : Still s (s.setUpdateReady v) :=
  .of_eq (.of_eq rfl rfl rfl rfl rfl) rfl rfl rfl rfl rfl

theorem still_clearLpenLatched (s : State) : Still s s.clearLpenLatched :=
  .of_eq (.of_eq rfl rfl rfl rfl rfl) rfl rfl rfl rfl rfl

theorem still_rdata (s : State) (b : Byte) : Still s { s with rdata := b } :=
  .of_eq (.of_eq rfl rfl rfl rfl rfl) rfl rfl rfl rfl rfl

theorem still_transparentUpdate (s : State) : Still s s.transparentUpdate := by
  rcases transparentUpdate_cases s with ⟨_, e⟩ | ⟨_, _, _, e⟩ | ⟨_, _, _, _, e⟩ | ⟨_, _, _, _, e⟩ <;> rw [e]
  · exact .refl s
  · exact (still_incUpdateAddr s).trans (still_callOnUpdateAddress _ _)
  · exact (still_setUpdateReady s false).trans (still_updAdrTimer _)
  · exact .refl s

theorem still_writeUpdateAddr (s : State) (a : Addr) : Still s (s.writeUpdateAddr a) := by
  cases ht : s.cfg.transparent
  · rw [writeUpdateAddr_of_opaque ht]
    exact .refl s
  · have hstore := still_updRegs s (f := fun r => { r with updateAddr := a }) rfl
    rw [writeUpdateAddr_of_transparent ht]
    split
    · exact hstore.trans (still_callOnUpdateAddress _ _)
    · exact hstore

/-- The recompute can restart the line: `T[LINE]` and `cc` (R245). -/
theorem still_recompute (s : State) (r : Bool) : Still s (s.recompute r) where
  toKeeps := keeps_recompute s r
  sig := recompute_sig s r
  ctr := by rw [recompute_ctr_eq]
  cc := by
    rcases recompute_cases s r with ⟨_, _, e⟩ | ⟨_, e⟩ | ⟨_, _, e⟩ <;> rw [e]
    · exact .inl rfl
    · exact .inl (by simp)
    · exact .inr rfl
  lpenAddr := by rw [recompute_regs]
  slot := fun u hu => (rearms_recompute s r).slot_eq fun hmem => hu (by rw [List.mem_singleton.1 hmem]; decide)
  lineArmed := by
    rcases recompute_cases s r with ⟨_, _, e⟩ | ⟨_, e⟩ | ⟨_, _, e⟩ <;> rw [e] <;> simp

theorem still_emit_row (s : State) (r : RowRecord) : Still s (s.emit (.row r)) :=
  .of_eq ⟨rfl, rfl, .append rfl rfl rfl, .of_sched_eq rfl⟩ rfl rfl rfl rfl rfl

theorem still_advanceCda (s : State) (y : Nat) : Still s (s.advanceCda y) := by
  unfold State.advanceCda
  split
  · exact .of_eq (.of_eq rfl rfl rfl rfl rfl) rfl rfl rfl rfl rfl
  · exact .refl s

theorem still_frameCda (s : State) (y : Nat) : Still s (s.frameCda y) := by
  unfold State.frameCda
  split
  · exact .of_eq (.of_eq rfl rfl rfl rfl rfl) rfl rfl rfl rfl rfl
  · exact .refl s

theorem still_evUpdTrans (s : State) (a : Addr) (b : Bool) : Still s (evUpdTrans a b s) := by
  have hemit : Still s (s.emit (.update a b)) :=
    .of_eq ⟨rfl, rfl, .append rfl rfl rfl, .of_sched_eq rfl⟩ rfl rfl rfl rfl rfl
  rcases evUpdTrans_cases a b s with ⟨_, _, e⟩ | ⟨_, e⟩ <;> rw [e]
  · exact (hemit.trans (still_incUpdateAddr _)).trans (still_setUpdateReady _ _)
  · exact hemit

/-- Between two clocks only the two update slots can be due. -/
def State.UpdatesOnly (s : State) : Prop := s.QuietBut [.updAdr, .updTrans]

theorem Still.updatesOnly {s s' : State} (h : Still s s') (hq : s.UpdatesOnly) : s'.UpdatesOnly := by
  intro u hu
  rw [h.rearms.now]
  by_cases hi : u ∈ idleTags
  · have ha : u.ahead = true := by cases u <;> simp_all [idleTags, Tag.ahead]
    rcases h.rearms.slot u with e | ⟨_, hf⟩
    · rw [e]
      exact hq u hu
    · rwa [freshSlot, if_pos ha] at hf
  · rw [h.slot u hi]
    exact hq u hu

/-- `run_due` between two clocks fires the two update events at most. -/
theorem still_runDue (hq : s.UpdatesOnly) : Still s s.runDue := by
  refine (runDue_induction (P := fun t => Still s t ∧ t.UpdatesOnly) ?_ ⟨.refl s, hq⟩).1
  rintro u t sl ⟨hs, hu⟩ _ hp
  obtain ⟨hslot, hdue⟩ := pickDue_due hp
  have ht : t ∈ [Tag.updAdr, Tag.updTrans] := by
    by_contra hne
    have hf := hu t hne
    rw [hslot, futureSlot_some, decide_eq_true_eq] at hf
    omega
  have hfire : Still u ((u.cancel t).fire sl.payload t) := by
    rcases List.mem_pair.1 ht with rfl | rfl
    · exact (still_cancel u (by decide)).trans (still_callOnUpdateAddress _ _)
    · exact (still_cancel u (by decide)).trans (still_evUpdTrans _ _ _)
  exact ⟨hs.trans hfire, hfire.updatesOnly hu⟩

/-- What is still before `run_due` is still after it. -/
theorem Still.runDue {s' : State} (h : Still s s') (hq : s.quiet = true) : Still s s'.runDue :=
  h.trans (still_runDue (h.updatesOnly (quietBut_of_quiet _ hq)))

theorem still_closeWrite {s' : State} (h : Still s s') (hq : s.quiet = true) : Still s s'.closeWrite := by
  cases hf : s'.fatal
  · rw [closeWrite_of_live hf]
    exact (h.trans (still_recompute s' false)).runDue hq
  · rw [closeWrite_of_fatal hf]
    exact h

theorem still_readEffect {f : State → State} (hf : ReadEffect f) (s : State) : Still s (f s) := by
  cases hf with
  | none => exact .refl s
  | unlatch => exact still_clearLpenLatched s
  | update => exact still_transparentUpdate s

theorem still_writeStore {f : State → State} (hf : WriteStore f) (s : State) : Still s (f s) := by
  cases hf with
  | regs g _ hlp => exact still_updRegs s (hlp _)
  | address a => exact still_writeUpdateAddr s _
  | update => exact still_transparentUpdate s

theorem still_scanBody (s : State) (y : Nat) : Still s ((s.emit (.row (s.rowRecord y))).advanceCda y) :=
  (still_emit_row s _).trans (still_advanceCda _ y)

/-- A scanline in a state in which nothing is due leaves nothing due. -/
theorem still_scanRow (hl : s.fatal = false) (hq : s.quiet = true) (y : Nat) : Still s (s.scanRow y) := by
  rw [scanRow_of_quiet hl hq]
  exact still_scanBody s y

theorem still_scanRows (n : Nat) {y : Nat} (hl : s.fatal = false) (hq : s.quiet = true) : Still s (scanRows n y s) := by
  induction n generalizing s y with
  | zero => exact .refl s
  | succ n ih =>
    obtain ⟨hl', hs⟩ := scanRow_sched hl hq y
    exact (still_scanRow hl hq y).trans (ih hl' ((quiet_congr hs).trans hq))

/-- The rows of `FRAME` (R261). -/
theorem still_frameRows (hl : s.fatal = false) (hq : s.quiet = true) (y0 y1 : Nat) :
    Still s (if s.geo.valid then scanRows (y1 + 1 - y0) y0 (s.frameCda y0) else s) := by
  split
  · have hq' : (s.frameCda y0).quiet = true := (quiet_congr (frameCda_sched s y0)).trans hq
    exact (still_frameCda s y0).trans (still_scanRows _ ((frameCda_fatal s y0).trans hl) hq')
  · exact .refl s

/-- Every operation of a ready machine but the events, `CLK` and `RESET` leaves the engine still. -/
theorem still_exec {i : Instr} {t : State} (hr : s.Ready) (he : i.isEvent = false) (hc : i ≠ .clk) (hx : i ≠ .reset)
    (h : exec i s = .next t) : Still s t := by
  obtain ⟨hl, hq⟩ := hr
  rcases exec_form i with ⟨_, hf, e⟩ | ⟨_, _, hf, e⟩ | ⟨_, hf, e⟩
  · rw [e, busRead_of_live hl] at h
    cases h
    exact ((still_readEffect hf s).trans (still_rdata _ _)).runDue hq
  · rw [e, busWrite_of_live hl] at h
    cases h
    exact still_closeWrite (still_writeStore hf s) hq
  · rw [e, unlessFatal_of_live hl] at h
    cases h
    cases hf with
    | sel d => exact (still_updRegs s rfl).runDue hq
    | event hi p t => exact absurd (he.symm.trans hi) Bool.false_ne_true
    | clk => exact absurd rfl hc
    | reset => exact absurd rfl hx
    | lpstb => exact (still_schedule_lpen s).runDue hq
    | scan y => exact (still_scanBody s y).runDue hq
    | frame y0 y1 => exact (still_frameRows hl hq y0 y1).runDue hq
    | restore => exact (still_recompute s true).runDue hq

/-- Settles O56, from `still_exec`. -/
theorem engineStandsStillBetweenClocks : Obligations.EngineStandsStillBetweenClocks := by
  intro i s t hr he hc hx h
  have st := still_exec hr he hc hx h
  exact ⟨st.sig, st.ctr, st.cc, st.lpenAddr, fun u h1 h2 h3 h4 => st.slot u (by simp [idleTags, h1, h2, h3, h4])⟩

end Sys2Proof.Machine

/-! # Proofs: what the events leave alone, and every operation

The relation between the states around an event, its induction over `run_due`, and the statements about time, records and
the registers that a clock leaves. -/

namespace Sys2Proof.Machine

variable {s : State}

/-! ### Events -/

/-- What an event leaves alone besides: the registers but two addresses, the geometry cache, the bridge's address, the last
read byte; and each of the two addresses moves only with its flag set. -/
structure EventFrame (s s' : State) : Prop extends Keeps s s' where
  geo : s'.geo = s.geo
  cda : s'.ctr.cda = s.ctr.cda
  rdata : s'.rdata = s.rdata
  regs : s'.regs = { s.regs with lpenAddr := s'.regs.lpenAddr, updateAddr := s'.regs.updateAddr }
  lpen : (s'.regs.lpenAddr = s.regs.lpenAddr ∧ s'.ctr.lpenLatched = s.ctr.lpenLatched) ∨ s'.ctr.lpenLatched = true
  update : (s'.regs.updateAddr = s.regs.updateAddr ∧ s'.ctr.updateReady = s.ctr.updateReady) ∨ s'.ctr.updateReady = true

theorem EventFrame.trans {s s' s'' : State} (h : EventFrame s s') (k : EventFrame s' s'') : EventFrame s s'' where
  toKeeps := h.toKeeps.trans k.toKeeps
  geo := k.geo.trans h.geo
  cda := k.cda.trans h.cda
  rdata := k.rdata.trans h.rdata
  regs := by rw [k.regs, h.regs]
  lpen := by
    rcases k.lpen with ⟨ka, kf⟩ | kf
    · rw [ka, kf]
      exact h.lpen
    · exact .inr kf
  update := by
    rcases k.update with ⟨ka, kf⟩ | kf
    · rw [ka, kf]
      exact h.update
    · exact .inr kf

/-- An operation that leaves the registers and, of the counters, the bridge's address and the two flags. -/
theorem EventFrame.of_eq {s s' : State} (hk : Keeps s s') (hg : s'.geo = s.geo) (hd : s'.rdata = s.rdata)
    (hr : s'.regs = s.regs) (hcda : s'.ctr.cda = s.ctr.cda) (hl : s'.ctr.lpenLatched = s.ctr.lpenLatched)
    (hu : s'.ctr.updateReady = s.ctr.updateReady) : EventFrame s s' :=
  ⟨hk, hg, hcda, hd, by rw [hr], .inl ⟨by rw [hr], hl⟩, .inl ⟨by rw [hr], hu⟩⟩

/-- An operation that leaves registers and counters. -/
theorem EventFrame.of_keeps {s s' : State} (hk : Keeps s s') (hg : s'.geo = s.geo) (hd : s'.rdata = s.rdata)
    (hr : s'.regs = s.regs) (hc : s'.ctr = s.ctr) : EventFrame s s' :=
  .of_eq hk hg hd hr (by rw [hc]) (by rw [hc]) (by rw [hc])

theorem EventFrame.refl (s : State) : EventFrame s s := .of_keeps (.refl s) rfl rfl rfl rfl

theorem eventFrame_cancel (s : State) (t : Tag) : EventFrame s (s.cancel t) :=
  .of_keeps (keeps_cancel s t) rfl rfl rfl rfl

theorem eventFrame_schedule (s : State) (t : Tag) {d : Nat} (hd : t.ahead = true → 0 < d) :
    EventFrame s (s.schedule t d) :=
  .of_keeps (keeps_schedule s t hd) rfl rfl rfl rfl

theorem eventFrame_setDe (s : State) (v : Bool) : EventFrame s (s.setDe v) :=
  .of_keeps (keeps_setDe s v) (setDe_geo s v) (setDe_rdata s v) (setDe_regs s v) (setDe_ctr s v)

theorem eventFrame_setHsync (s : State) (v : Bool) : EventFrame s (s.setHsync v) :=
  .of_keeps (keeps_setHsync s v) (setHsync_geo s v) (setHsync_rdata s v) (setHsync_regs s v) (setHsync_ctr s v)

theorem eventFrame_setVsync (s : State) (v : Bool) : EventFrame s (s.setVsync v) :=
  .of_keeps (keeps_setVsync s v) (setVsync_geo s v) (setVsync_rdata s v) (setVsync_regs s v) (setVsync_ctr s v)

theorem eventFrame_setCur (s : State) (v : Bool) : EventFrame s (s.setCur v) :=
  .of_keeps (keeps_setCur s v) (setCur_geo s v) (setCur_rdata s v) (setCur_regs s v) (setCur_ctr s v)

theorem eventFrame_callOnUpdateAddress (s : State) (b : Bool) : EventFrame s (s.callOnUpdateAddress b) :=
  .of_keeps (keeps_callOnUpdateAddress s b) (callOnUpdateAddress_geo s b) (callOnUpdateAddress_rdata s b)
    (callOnUpdateAddress_regs s b) (callOnUpdateAddress_ctr s b)

theorem keeps_ticked (s : State) : Keeps s s.ticked := by
  refine ⟨rfl, rfl, ?_, .of_sched_eq rfl⟩
  unfold State.ticked
  cases s.tickRestart
  · exact .of_eq (List.append_nil _) rfl
  · exact .append rfl rfl rfl

/-- The line tick, through its steps (R183). -/
theorem eventFrame_evLine (s : State) : EventFrame s (evLine s) := by
  have h0 : EventFrame s s.ticked := .of_eq (keeps_ticked s) rfl rfl rfl rfl rfl rfl
  have h4 : EventFrame s.ticked (lineStep4 s.ticked) := by
    rcases lineStep4_cases s.ticked with ⟨_, e⟩ | ⟨_, _, e⟩ | ⟨_, _, e⟩ <;> rw [e]
    · exact .refl _
    · exact eventFrame_schedule _ .deOff fun h => absurd h Bool.false_ne_true
    · exact (eventFrame_schedule _ .deOff fun h => absurd h Bool.false_ne_true).trans
        (eventFrame_schedule _ .curOn fun h => absurd h Bool.false_ne_true)
  have h5 : ∀ u : State, EventFrame u (lineStep5 u) := fun u =>
    (eventFrame_schedule u .hsOn fun h => absurd h Bool.false_ne_true).trans
      (eventFrame_schedule _ .line fun _ => Nat.succ_pos _)
  rw [evLine_eq, lineCounters_eq]
  exact ((h0.trans h4).trans (h5 _)).trans ((eventFrame_setVsync _ _).trans (eventFrame_setDe _ _))

theorem eventFrame_evUpdTrans (s : State) (a : Addr) (b : Bool) : EventFrame s (evUpdTrans a b s) := by
  have hk : Keeps s (evUpdTrans a b s) := (still_evUpdTrans s a b).toKeeps
  rcases evUpdTrans_cases a b s with ⟨_, _, e⟩ | ⟨_, e⟩ <;> rw [e] at hk ⊢
  · exact ⟨hk, rfl, rfl, rfl, rfl, .inl ⟨rfl, rfl⟩, .inr rfl⟩
  · exact .of_keeps hk rfl rfl rfl rfl

theorem eventFrame_fire (s : State) (p : Payload) (t : Tag) : EventFrame s (s.fire p t) := by
  cases t
  case line => exact eventFrame_evLine s
  case deOff => exact eventFrame_setDe s false
  case curOn => exact (eventFrame_setCur s true).trans (eventFrame_schedule _ .curOff fun _ => one_pos)
  case curOff => exact eventFrame_setCur s false
  case hsOn =>
    show EventFrame s (evHsOn s)
    rw [evHsOn_eq]
    have hclear : EventFrame s { s with ctr := { s.ctr with hswCtr := 0 } } :=
      .of_eq (.of_eq rfl rfl rfl rfl rfl) rfl rfl rfl rfl rfl rfl
    exact (hclear.trans (eventFrame_setHsync _ true)).trans (eventFrame_schedule _ .hsOff fun _ => (hsw_bounds s).1)
  case hsOff => exact eventFrame_setHsync s false
  case lpen => exact ⟨.of_eq rfl rfl rfl rfl rfl, rfl, rfl, rfl, rfl, .inr rfl, .inl ⟨rfl, rfl⟩⟩
  case updAdr => exact eventFrame_callOnUpdateAddress s _
  case updTrans => exact eventFrame_evUpdTrans s _ _

/-- Any number of events leaves alone what each does. -/
theorem eventFrame_runDue (s : State) : EventFrame s s.runDue :=
  runDue_induction (P := EventFrame s)
    (fun u t sl hu _ _ => (hu.trans (eventFrame_cancel u t)).trans (eventFrame_fire (u.cancel t) sl.payload t)) (.refl s)

/-- A clock of a running machine is `run_due` after the count (R182). -/
theorem exec_clk_of_live (hl : s.fatal = false) : exec .clk s = .next s.tick.runDue :=
  congrArg _ (unlessFatal_of_live hl _)

theorem exec_clk_of_fatal (hf : s.fatal = true) : exec .clk s = .next s := congrArg _ (unlessFatal_of_fatal hf _)

/-- Settles O54: the count touches none of these, and the events are `eventFrame_runDue`. -/
theorem clockKeepsTheProgrammedRegisters : Obligations.ClockKeepsTheProgrammedRegisters := by
  intro s
  cases hf : s.fatal
  · have fr := eventFrame_runDue s.tick
    exact ⟨_, exec_clk_of_live hf, fr.regs, fr.geo, fr.cda, fr.rdata, fr.lpen.imp_left fun h => h.1,
      fr.update.imp_left fun h => h.1⟩
  · exact ⟨s, exec_clk_of_fatal hf, rfl, rfl, rfl, rfl, .inl rfl, .inl rfl⟩

/-! ### Every operation -/

theorem keeps_runDue (s : State) : Keeps s s.runDue := (eventFrame_runDue s).toKeeps

theorem keeps_closeWrite (s : State) : Keeps s s.closeWrite := by
  cases hf : s.fatal
  · rw [closeWrite_of_live hf]
    exact (keeps_recompute s false).trans (keeps_runDue _)
  · rw [closeWrite_of_fatal hf]
    exact .refl s

theorem keeps_scanRow (s : State) (y : Nat) : Keeps s (s.scanRow y) := by
  unfold State.scanRow State.unlessFatal
  split
  · exact .refl s
  · exact (still_scanBody s y).toKeeps.trans (keeps_runDue _)

theorem keeps_scanRows (n y : Nat) (s : State) : Keeps s (scanRows n y s) := by
  induction n generalizing y s with
  | zero => exact .refl s
  | succ n ih => exact (keeps_scanRow s y).trans (ih (y + 1) _)

/-- `RESET` (R321): the banks, the four levels through their setters, the slots. -/
theorem keeps_resetBody (s : State) :
    Keeps s (s.resetBanks.lowerSignals.clearSlotsAndGeom.schedule .line 1).runDue := by
  have hbanks : Keeps s s.resetBanks := .of_eq rfl rfl rfl rfl rfl
  have hlevels : Keeps s.resetBanks s.resetBanks.lowerSignals :=
    (((keeps_setDe _ false).trans (keeps_setHsync _ false)).trans (keeps_setVsync _ false)).trans (keeps_setCur _ false)
  have hclear : ∀ u : State, Keeps u u.clearSlotsAndGeom := fun u =>
    ⟨rfl, rfl, .of_eq rfl rfl, rfl, le_rfl, fun t => .inr ⟨mem_allTags t, by simp [freshSlot]⟩⟩
  exact (((hbanks.trans hlevels).trans (hclear _)).trans (keeps_schedule _ .line fun _ => one_pos)).trans (keeps_runDue _)

/-- What every body but that of `CLK` keeps. -/
theorem keeps_otherBody {i : Instr} {f : State → State} (hf : OtherBody i f) (hi : i ≠ .clk) (s : State) :
    Keeps s (f s) := by
  cases hf with
  | sel d => exact (still_updRegs s rfl).toKeeps.trans (keeps_runDue _)
  | event _ p t => exact (eventFrame_fire s p t).toKeeps
  | clk => exact absurd rfl hi
  | reset => exact keeps_resetBody s
  | lpstb => exact (still_schedule_lpen s).toKeeps.trans (keeps_runDue _)
  | scan y => exact (still_scanBody s y).toKeeps.trans (keeps_runDue _)
  | frame y0 y1 =>
    refine Keeps.trans ?_ (keeps_runDue _)
    split
    · exact (still_frameCda s y0).toKeeps.trans (keeps_scanRows _ _ _)
    · exact .refl s
  | restore => exact (keeps_recompute s true).trans (keeps_runDue _)

/-- What every operation but `CLK` keeps, in every state. -/
theorem keeps_exec {i : Instr} {t : State} (hi : i ≠ .clk) (h : exec i s = .next t) : Keeps s t := by
  have hbyte : ∀ (u : State) (b : Byte), Keeps u { u with rdata := b } := fun u b => (still_rdata u b).toKeeps
  rcases exec_form i with ⟨_, hf, e⟩ | ⟨_, _, hf, e⟩ | ⟨_, hf, e⟩ <;> rw [e] at h <;> cases hl : s.fatal
  · rw [busRead_of_live hl] at h
    cases h
    exact ((still_readEffect hf s).toKeeps.trans (hbyte _ _)).trans (keeps_runDue _)
  · rw [busRead_of_fatal hl] at h
    cases h
    exact hbyte s 0
  · rw [busWrite_of_live hl] at h
    cases h
    exact (still_writeStore hf s).toKeeps.trans (keeps_closeWrite _)
  · rw [busWrite_of_fatal hl] at h
    cases h
    exact .refl s
  · rw [unlessFatal_of_live hl] at h
    cases h
    exact keeps_otherBody hf hi s
  · rw [unlessFatal_of_fatal hl] at h
    cases h
    exact .refl s

/-- Settles O53: `keeps_exec`, and for `CLK` the count before its events. -/
theorem onlyClkAdvancesTime : Obligations.OnlyClkAdvancesTime := by
  intro i s t h
  by_cases hi : i = .clk
  · subst hi
    cases hf : s.fatal
    · rw [exec_clk_of_live hf] at h
      cases h
      have k := keeps_runDue s.tick
      exact ⟨k.rearms.now, k.rearms.seq, k.cfg, k.inbox⟩
    · rw [exec_clk_of_fatal hf] at h
      cases h
      exact ⟨by simp, le_rfl, rfl, rfl⟩
  · have k := keeps_exec hi h
    exact ⟨by rw [if_neg fun hc => hi hc.1, k.rearms.now], k.rearms.seq, k.cfg, k.inbox⟩

/-- Settles O55: `keeps_exec`, and for `CLK` its events. -/
theorem recordsTrackTheLevels : Obligations.RecordsTrackTheLevels := by
  intro i s t h
  by_cases hi : i = .clk
  · subst hi
    cases hf : s.fatal
    · rw [exec_clk_of_live hf] at h
      cases h
      exact (keeps_runDue s.tick).tracks
    · rw [exec_clk_of_fatal hf] at h
      cases h
      exact Tracks.of_eq rfl rfl
  · exact (keeps_exec hi h).tracks

end Sys2Proof.Machine

/-! # Proofs: the invariant

The clauses of `Inv` in groups by the part of the state they speak of: the two pulses that run by a counter or a slot, the
display, the update, and what is written by the bus alone. Each group is kept by the operations between two clocks, by the
count of `CLK`, by `RESET` and by each round of `run_due`. Then the statements about `RESET`, power-on and the step. -/

namespace Sys2Proof.Machine

variable {s s' : State}

/-! ### The groups -/

/-- The pulses of HSYNC and CURSOR (R45, R193 to R196). -/
structure PulseInv (s : State) : Prop where
  hsw : hswBound s.sched.now s.ctr.hswCtr (s.slot .hsOff) = true
  cursor : s.sig.cursor = (s.slot .curOff).isSome
  hsync : s.sig.hsync = (s.slot .hsOff).isSome

/-- VSYNC and DE (R46, R189, R191). -/
structure DisplayInv (s : State) : Prop where
  vsync : s.sig.vsync = s.ctr.vsyncFf
  enabled : s.sig.de = true → s.ctr.lineEnable = true
  fall : s.sig.de = true → (s.slot .deOff).isSome = true

/-- The transparent update and its fault (R275, R277, R302). -/
structure UpdateInv (s : State) : Prop where
  blank : (s.slot .updAdr).isSome = true → s.sig.de = false
  transparentOnly : s.cfg.transparent = false → s.ctr.updateReady = true ∧ s.slot .updAdr = none ∧ s.slot .updTrans = none
  live : s.cfg.wf = true → s.fatal = false

/-- The address latch and the geometry cache (R61, R242). -/
structure StaticInv (s : State) : Prop where
  latch : s.regs.al.toNat < 2 ^ s.cfg.addrBits.bits
  valid : s.geo.valid = s.geo.nums.isValid
  hsOff : s.geo.nums.hsOff ≤ s.geo.nums.hTotalPx
  vsOff : s.geo.nums.vsOff ≤ s.geo.nums.vTotalPx

/-- What holds of a running machine before and after each event: `Inv` but that something may be due. -/
structure RunInv (s : State) : Prop where
  pulse : PulseInv s
  display : DisplayInv s
  update : UpdateInv s
  static : StaticInv s
  notPast : ∀ t : Tag, notPast s.sched.now (s.slot t) = true
  lineArmed : (s.slot .line).isSome = true

theorem Inv.runInv (h : Inv s) (hl : s.fatal = false) : RunInv s where
  pulse := ⟨h.hswInRange, h.cursorLevel, h.hsyncLevel⟩
  display := ⟨h.vsyncLevel, h.deNeedsLineEnable, h.deFallScheduled⟩
  update := ⟨h.updAdrNeedsBlank, h.transparentOnly, h.liveIfWf⟩
  static := ⟨h.latchInRange, h.geomValid, h.hsOffClamped, h.vsOffClamped⟩
  notPast := h.noSlotPast
  lineArmed := h.lineArmed.resolve_left (by simp [hl])

theorem RunInv.inv (h : RunInv s) (hq : s.fatal = true ∨ s.quiet = true) : Inv s where
  latchInRange := h.static.latch
  lineArmed := .inr h.lineArmed
  noSlotPast := h.notPast
  quietOrFatal := hq
  hswInRange := h.pulse.hsw
  cursorLevel := h.pulse.cursor
  hsyncLevel := h.pulse.hsync
  vsyncLevel := h.display.vsync
  deNeedsLineEnable := h.display.enabled
  deFallScheduled := h.display.fall
  updAdrNeedsBlank := h.update.blank
  transparentOnly := h.update.transparentOnly
  geomValid := h.static.valid
  hsOffClamped := h.static.hsOff
  vsOffClamped := h.static.vsOff
  liveIfWf := h.update.live

/-! ### Each group depends on its part of the state alone -/

theorem PulseInv.congr (h : PulseInv s) (hnow : s'.sched.now = s.sched.now) (hctr : s'.ctr.hswCtr = s.ctr.hswCtr)
    (hcur : s'.sig.cursor = s.sig.cursor) (hhs : s'.sig.hsync = s.sig.hsync) (hco : s'.slot .curOff = s.slot .curOff)
    (hho : s'.slot .hsOff = s.slot .hsOff) : PulseInv s' :=
  ⟨by rw [hnow, hctr, hho]; exact h.hsw, by rw [hcur, hco]; exact h.cursor, by rw [hhs, hho]; exact h.hsync⟩

theorem DisplayInv.congr (h : DisplayInv s) (hvs : s'.sig.vsync = s.sig.vsync) (hde : s'.sig.de = s.sig.de)
    (hff : s'.ctr.vsyncFf = s.ctr.vsyncFf) (hle : s'.ctr.lineEnable = s.ctr.lineEnable)
    (hdo : s'.slot .deOff = s.slot .deOff) : DisplayInv s' :=
  ⟨by rw [hvs, hff]; exact h.vsync, by rw [hde, hle]; exact h.enabled, by rw [hde, hdo]; exact h.fall⟩

theorem UpdateInv.congr (h : UpdateInv s) (hcfg : s'.cfg = s.cfg) (hde : s'.sig.de = s.sig.de)
    (hur : s'.ctr.updateReady = s.ctr.updateReady) (hf : s'.fatal = s.fatal) (hua : s'.slot .updAdr = s.slot .updAdr)
    (hut : s'.slot .updTrans = s.slot .updTrans) : UpdateInv s' :=
  ⟨by rw [hua, hde]; exact h.blank, by rw [hcfg, hur, hua, hut]; exact h.transparentOnly,
    by rw [hcfg, hf]; exact h.live⟩

theorem StaticInv.congr (h : StaticInv s) (hcfg : s'.cfg = s.cfg) (hal : s'.regs.al = s.regs.al) (hgeo : s'.geo = s.geo) :
    StaticInv s' :=
  ⟨by rw [hcfg, hal]; exact h.latch, by rw [hgeo]; exact h.valid, by rw [hgeo]; exact h.hsOff,
    by rw [hgeo]; exact h.vsOff⟩

theorem Keeps.notPast (k : Keeps s s') (h : ∀ t : Tag, notPast s.sched.now (s.slot t) = true) (t : Tag) :
    Machine.notPast s'.sched.now (s'.slot t) = true := by
  rw [k.rearms.now]
  rcases k.rearms.slot t with e | ⟨_, hf⟩
  · rw [e]
    exact h t
  · exact notPast_of_freshSlot hf

/-! ### Between two clocks -/

theorem Still.pulse (st : Still s s') (h : PulseInv s) : PulseInv s' :=
  h.congr st.rearms.now (by rw [st.ctr]) (by rw [st.sig]) (by rw [st.sig]) (st.slot _ (by decide))
    (st.slot _ (by decide))

theorem Still.display (st : Still s s') (h : DisplayInv s) : DisplayInv s' :=
  h.congr (by rw [st.sig]) (by rw [st.sig]) (by rw [st.ctr]) (by rw [st.ctr]) (st.slot _ (by decide))

/-- While the engine is still, the update group and the static group are all there is to show. -/
theorem RunInv.of_still (h : RunInv s) (st : Still s s') (hu : UpdateInv s') (hx : StaticInv s') : RunInv s' :=
  ⟨st.pulse h.pulse, st.display h.display, hu, hx, st.toKeeps.notPast h.notPast, st.lineArmed h.lineArmed⟩

theorem UpdateInv.callOnUpdateAddress (h : UpdateInv s) (ht : s.cfg.transparent = true) (b : Bool) :
    UpdateInv (s.callOnUpdateAddress b) := by
  cases hh : s.cfg.updHandler
  · rw [callOnUpdateAddress_of_noHandler hh]
    exact ⟨h.blank, h.transparentOnly, fun hwf => by simp [Config.wf, ht, hh] at hwf⟩
  · rw [callOnUpdateAddress_of_handler hh]
    exact ⟨h.blank, fun hf => absurd (hf.symm.trans ht) Bool.false_ne_true, h.live⟩

theorem UpdateInv.updAdrTimer (h : UpdateInv s) : UpdateInv s.updAdrTimer := by
  rcases updAdrTimer_cases s with ⟨_, e⟩ | ⟨hde, ht, e⟩ <;> rw [e]
  · exact h
  · exact ⟨fun _ => hde, fun hf => absurd (hf.symm.trans ht) Bool.false_ne_true, h.live⟩

theorem UpdateInv.transparentUpdate (h : UpdateInv s) : UpdateInv s.transparentUpdate := by
  rcases transparentUpdate_cases s with ⟨_, e⟩ | ⟨ht, _, _, e⟩ | ⟨ht, _, _, _, e⟩ | ⟨_, _, _, _, e⟩ <;> rw [e]
  · exact h
  · exact UpdateInv.callOnUpdateAddress (s := s.incUpdateAddr) (h.congr rfl rfl rfl rfl rfl rfl) ht _
  · have hclear : UpdateInv (s.setUpdateReady false) :=
      ⟨h.blank, fun hf => absurd (hf.symm.trans ht) Bool.false_ne_true, h.live⟩
    exact hclear.updAdrTimer
  · exact h

theorem UpdateInv.writeUpdateAddr (h : UpdateInv s) (a : Addr) : UpdateInv (s.writeUpdateAddr a) := by
  cases ht : s.cfg.transparent
  · rw [writeUpdateAddr_of_opaque ht]
    exact h
  · have hstore : UpdateInv (s.updRegs fun r => { r with updateAddr := a }) := h.congr rfl rfl rfl rfl rfl rfl
    rw [writeUpdateAddr_of_transparent ht]
    split
    · exact hstore.callOnUpdateAddress ht _
    · exact hstore

theorem transparentUpdate_al (s : State) : s.transparentUpdate.regs.al = s.regs.al := by
  rcases transparentUpdate_cases s with ⟨_, e⟩ | ⟨_, _, _, e⟩ | ⟨_, _, _, _, e⟩ | ⟨_, _, _, _, e⟩ <;> rw [e] <;> simp

theorem writeUpdateAddr_al (s : State) (a : Addr) : (s.writeUpdateAddr a).regs.al = s.regs.al := by
  cases ht : s.cfg.transparent
  · rw [writeUpdateAddr_of_opaque ht]
  · rw [writeUpdateAddr_of_transparent ht]
    split <;> simp

theorem RunInv.transparentUpdate (h : RunInv s) : RunInv s.transparentUpdate :=
  h.of_still (still_transparentUpdate s) h.update.transparentUpdate
    (h.static.congr (transparentUpdate_cfg s) (transparentUpdate_al s) (transparentUpdate_geo s))

theorem RunInv.readEffect (h : RunInv s) {f : State → State} (hf : ReadEffect f) : RunInv (f s) := by
  cases hf with
  | none => exact h
  | unlatch =>
    exact h.of_still (still_clearLpenLatched s) (h.update.congr rfl rfl rfl rfl rfl rfl) (h.static.congr rfl rfl rfl)
  | update => exact h.transparentUpdate

theorem RunInv.writeStore (h : RunInv s) {f : State → State} (hf : WriteStore f) : RunInv (f s) := by
  cases hf with
  | regs g hal hlp =>
    exact h.of_still (still_updRegs s (hlp _)) (h.update.congr rfl rfl rfl rfl rfl rfl) (h.static.congr rfl (hal _) rfl)
  | address a =>
    exact h.of_still (still_writeUpdateAddr s _) (h.update.writeUpdateAddr _)
      (h.static.congr (writeUpdateAddr_cfg s _) (writeUpdateAddr_al s _) (writeUpdateAddr_geo s _))
  | update => exact h.transparentUpdate

/-- The cache that the recompute stores is clamped (R241), and its validity is that of its numbers (R242). -/
theorem StaticInv.recompute (h : StaticInv s) (r : Bool) : StaticInv (s.recompute r) := by
  have hstore : StaticInv ((s.emitGeom s.deriveGeom).storeGeom s.deriveGeom) :=
    ⟨by simpa using h.latch, rfl, min_le_right _ _, min_le_right _ _⟩
  rcases recompute_cases s r with ⟨_, _, e⟩ | ⟨_, e⟩ | ⟨_, _, e⟩ <;> rw [e]
  · exact h
  · exact hstore
  · exact hstore.congr rfl rfl rfl

theorem RunInv.recompute (h : RunInv s) (r : Bool) : RunInv (s.recompute r) := by
  have hslot := rearms_recompute s r
  refine h.of_still (still_recompute s r) (h.update.congr (recompute_cfg s r) (by rw [recompute_sig]) ?_
    (recompute_fatal s r) (hslot.slot_eq (by decide)) (hslot.slot_eq (by decide))) (h.static.recompute r)
  rw [recompute_ctr_eq]

theorem RunInv.rdata (h : RunInv s) (b : Byte) : RunInv { s with rdata := b } :=
  h.of_still (still_rdata s b) (h.update.congr rfl rfl rfl rfl rfl rfl) (h.static.congr rfl rfl rfl)

theorem RunInv.schedule_lpen (h : RunInv s) : RunInv (s.schedule .lpen 1) :=
  h.of_still (still_schedule_lpen s) (h.update.congr rfl rfl rfl rfl rfl rfl) (h.static.congr rfl rfl rfl)

theorem RunInv.sel (h : RunInv s) (d : Byte) : RunInv (s.updRegs fun r => { r with al := latchIndex s.cfg d }) :=
  h.of_still (still_updRegs s rfl) (h.update.congr rfl rfl rfl rfl rfl rfl)
    ⟨latchIndex_lt s.cfg d, h.static.valid, h.static.hsOff, h.static.vsOff⟩

theorem advanceCda_updateReady (s : State) (y : Nat) : (s.advanceCda y).ctr.updateReady = s.ctr.updateReady := by
  unfold State.advanceCda
  split <;> rfl

theorem frameCda_updateReady (s : State) (y : Nat) : (s.frameCda y).ctr.updateReady = s.ctr.updateReady := by
  unfold State.frameCda
  split <;> rfl

theorem RunInv.scanBody (h : RunInv s) (y : Nat) : RunInv ((s.emit (.row (s.rowRecord y))).advanceCda y) :=
  h.of_still (still_scanBody s y)
    (h.update.congr (by simp) (by simp) (advanceCda_updateReady _ y) (by simp) (by simp) (by simp))
    (h.static.congr (by simp) (by simp) (by simp))

theorem RunInv.scanRows (h : RunInv s) (hl : s.fatal = false) (hq : s.quiet = true) (n y : Nat) :
    RunInv (scanRows n y s) := by
  induction n generalizing s y with
  | zero => exact h
  | succ n ih =>
    obtain ⟨hl', hs⟩ := scanRow_sched hl hq y
    refine ih ?_ hl' ((quiet_congr hs).trans hq) (y + 1)
    rw [scanRow_of_quiet hl hq]
    exact h.scanBody y

theorem RunInv.frameRows (h : RunInv s) (hl : s.fatal = false) (hq : s.quiet = true) (y0 y1 : Nat) :
    RunInv (if s.geo.valid then Machine.scanRows (y1 + 1 - y0) y0 (s.frameCda y0) else s) := by
  split
  · have hcda : RunInv (s.frameCda y0) := h.of_still (still_frameCda s y0)
      (h.update.congr (by simp) (by simp) (frameCda_updateReady s y0) (by simp) (by simp) (by simp))
      (h.static.congr (by simp) (by simp) (by simp))
    exact hcda.scanRows ((frameCda_fatal s y0).trans hl) ((quiet_congr (frameCda_sched s y0)).trans hq) _ _
  · exact h

/-! ### The count of a clock (R182) -/

/-- While `T[HS_OFF]` waits, a clock moves one from its wait to the width counter (R45). -/
theorem hswBound_tick {now : Nat} {c : BitVec 5} {x : Option Slot} (h : hswBound now c x = true)
    (hf : futureSlot now x = true) : hswBound (now + 1) (if x.isSome then c + 1 else c) x = true := by
  cases x with
  | none => exact h
  | some sl =>
    simp only [hswBound, futureSlot_some, decide_eq_true_eq, Option.isSome_some, if_true] at h hf ⊢
    rw [BitVec.toNat_add]
    have : (1 : BitVec 5).toNat = 1 := rfl
    omega

theorem RunInv.tick (h : RunInv s) (hq : s.quiet = true) : RunInv s.tick where
  pulse := ⟨hswBound_tick h.pulse.hsw ((quiet_iff s).1 hq .hsOff), h.pulse.cursor, h.pulse.hsync⟩
  display := h.display.congr rfl rfl rfl rfl rfl
  update := h.update.congr rfl rfl rfl rfl rfl rfl
  static := h.static.congr rfl rfl rfl
  notPast := fun t => by
    have hf := (quiet_iff s).1 hq t
    show Machine.notPast (s.sched.now + 1) (s.sched.slots.get t) = true
    cases hs : s.sched.slots.get t with
    | none => rfl
    | some sl =>
      rw [hs, futureSlot_some, decide_eq_true_eq] at hf
      simpa using hf
  lineArmed := h.lineArmed

/-! ### A round of `run_due` (R181) -/

/-- The state after one round: the slot emptied, its event fired. -/
def State.round (s : State) (t : Tag) (p : Payload) : State := (s.cancel t).fire p t

/-- A round writes its own slot and those that its event writes. -/
theorem round_slot (s : State) {t u : Tag} (p : Payload) (hu : u ≠ t) (ha : u ∉ t.arms) :
    (s.round t p).slot u = s.slot u :=
  ((rearms_fire (s.cancel t) p t).slot_eq ha).trans ((rearms_cancel s t).slot_eq (by simpa using hu))

theorem eventFrame_round (s : State) (t : Tag) (p : Payload) : EventFrame s (s.round t p) :=
  (eventFrame_cancel s t).trans (eventFrame_fire _ p t)

/-- Events other than those of the two pulses leave their levels and the width counter. -/
theorem fire_pulse (s : State) (p : Payload) {t : Tag} (ht : t ∉ [Tag.curOn, .curOff, .hsOn, .hsOff]) :
    (s.fire p t).ctr.hswCtr = s.ctr.hswCtr ∧ (s.fire p t).sig.cursor = s.sig.cursor ∧
      (s.fire p t).sig.hsync = s.sig.hsync := by
  cases t
  case line =>
    show (evLine s).ctr.hswCtr = _ ∧ (evLine s).sig.cursor = _ ∧ (evLine s).sig.hsync = _
    rw [evLine_closed]
    exact ⟨rfl, rfl, rfl⟩
  case deOff => simp [State.fire, evDeOff]
  case lpen => exact ⟨rfl, rfl, rfl⟩
  case updAdr => simp [State.fire, evUpdAdr]
  case updTrans =>
    have st := still_evUpdTrans s p.addr p.strobe
    exact ⟨by rw [State.fire, st.ctr], by rw [State.fire, st.sig], by rw [State.fire, st.sig]⟩
  all_goals exact absurd (by decide) ht

theorem PulseInv.round (h : PulseInv s) {t : Tag} {sl : Slot} (hs : s.slot t = some sl) (p : Payload) :
    PulseInv (s.round t p) := by
  by_cases ht : t ∈ [Tag.curOn, .curOff, .hsOn, .hsOff]
  · simp only [List.mem_cons, List.not_mem_nil, or_false] at ht
    rcases ht with rfl | rfl | rfl | rfl
    · show PulseInv (evCurOn (s.cancel .curOn))
      rw [evCurOn_eq, setCur_eq]
      exact ⟨h.hsw, rfl, h.hsync⟩
    · show PulseInv ((s.cancel .curOff).setCur false)
      rw [setCur_eq]
      exact ⟨h.hsw, rfl, h.hsync⟩
    · show PulseInv (evHsOn (s.cancel .hsOn))
      rw [evHsOn_eq, setHsync_eq]
      refine ⟨?_, h.cursor, rfl⟩
      have hw := (hsw_bounds s).2
      show decide (0 + (s.sched.now + s.hsw - s.sched.now) ≤ 16) = true
      rw [decide_eq_true_eq]
      omega
    · show PulseInv ((s.cancel .hsOff).setHsync false)
      rw [setHsync_eq]
      refine ⟨?_, h.cursor, rfl⟩
      have hb := h.hsw
      rw [hs] at hb
      simp only [hswBound, decide_eq_true_eq] at hb
      show decide (s.ctr.hswCtr.toNat ≤ 16) = true
      rw [decide_eq_true_eq]
      omega
  · obtain ⟨hctr, hcur, hhs⟩ := fire_pulse (s.cancel t) p ht
    refine h.congr (eventFrame_round s t p).rearms.now hctr hcur hhs (round_slot s p ?_ ?_) (round_slot s p ?_ ?_) <;>
      cases t <;> simp_all [Tag.arms]

/-- Events other than the tick and the fall of DE leave the levels of the display. -/
theorem fire_display (s : State) (p : Payload) {t : Tag} (ht : t ∉ [Tag.line, .deOff]) :
    (s.fire p t).sig.vsync = s.sig.vsync ∧ (s.fire p t).sig.de = s.sig.de ∧
      (s.fire p t).ctr.vsyncFf = s.ctr.vsyncFf ∧ (s.fire p t).ctr.lineEnable = s.ctr.lineEnable := by
  cases t
  case curOn => simp [State.fire, evCurOn]
  case curOff => simp [State.fire, evCurOff]
  case hsOn => simp [State.fire, evHsOn]
  case hsOff => simp [State.fire, evHsOff]
  case lpen => exact ⟨rfl, rfl, rfl, rfl⟩
  case updAdr => simp [State.fire, evUpdAdr]
  case updTrans =>
    have st := still_evUpdTrans s p.addr p.strobe
    exact ⟨by rw [State.fire, st.sig], by rw [State.fire, st.sig], by rw [State.fire, st.ctr],
      by rw [State.fire, st.ctr]⟩
  all_goals exact absurd (by decide) ht

/-- After a tick VSYNC is the flip-flop, and DE is `line_enable` with its fall scheduled (R189, R191). -/
theorem DisplayInv.evLine (h : s.sig.vsync = s.ctr.vsyncFf) : DisplayInv (evLine s) := by
  rw [evLine_closed]
  refine ⟨?_, fun hde => hde, fun hde => ?_⟩
  · show s.tickVsync = (s.tickVsyncStart || (s.ctr.vsyncFf && !s.tickVsyncEnd))
    rw [State.tickVsync, h]
    cases s.tickVsyncStart <;> cases s.tickVsyncEnd <;> simp
  · show ((State.deSched _ _).slots.get .deOff).isSome = true
    rw [deSched_get_of_ne _ _ (by decide), lineArmed_eq]
    show (if s.tickLineEnable = true then some _ else _).isSome = true
    rw [if_pos hde]
    rfl

theorem DisplayInv.round (h : DisplayInv s) (t : Tag) (p : Payload) : DisplayInv (s.round t p) := by
  by_cases ht : t ∈ [Tag.line, .deOff]
  · rcases List.mem_pair.1 ht with rfl | rfl
    · exact DisplayInv.evLine (s := s.cancel .line) h.vsync
    · show DisplayInv ((s.cancel .deOff).setDe false)
      exact ⟨by simpa using h.vsync, by simp, by simp⟩
  · obtain ⟨hvs, hde, hff, hle⟩ := fire_display (s.cancel t) p ht
    refine h.congr hvs hde hff hle (round_slot s p ?_ ?_) <;> cases t <;> simp_all [Tag.arms]

theorem UpdateInv.cancel (h : UpdateInv s) (t : Tag) : UpdateInv (s.cancel t) := by
  have hnone : ∀ u, s.slot u = none → (s.cancel t).slot u = none := by
    intro u hu
    rw [slot_def, cancel_sched, Slots.get_set]
    split
    · rfl
    · exact hu
  refine ⟨fun hsome => h.blank ?_, fun ht => ?_, h.live⟩
  · rw [Option.isSome_iff_ne_none] at hsome ⊢
    exact fun hu => hsome (hnone _ hu)
  · obtain ⟨hr, ha, hx⟩ := h.transparentOnly ht
    exact ⟨hr, hnone _ ha, hnone _ hx⟩

/-- A set of DE keeps the timer off while DE is high (R223). -/
theorem UpdateInv.setDe (h : UpdateInv s) (v : Bool) : UpdateInv (s.setDe v) := by
  rcases setDe_cases s v with ⟨_, e⟩ | ⟨_, e⟩ <;> rw [e]
  · exact h
  · rcases deHook_cases { s with sig := { s.sig with de := v } } v with ⟨_, e⟩ | ⟨hv, _, e⟩ | ⟨hv, _, e⟩ <;> rw [e]
    · refine ⟨fun hsome => absurd hsome Bool.false_ne_true, fun ht => ?_, h.live⟩
      obtain ⟨hr, _, hx⟩ := h.transparentOnly ht
      exact ⟨hr, rfl, hx⟩
    · have hlow : UpdateInv { s with sig := { s.sig with de := v } } := ⟨fun _ => hv, h.transparentOnly, h.live⟩
      exact hlow.updAdrTimer.congr rfl rfl rfl rfl rfl rfl
    · exact ⟨fun _ => hv, h.transparentOnly, h.live⟩

theorem UpdateInv.evLine (h : UpdateInv s) : UpdateInv (evLine s) := by
  rw [evLine_eq, lineCounters_eq, lineStep6_eq]
  have hslot := ((Rearms.of_sched_eq (T := [.deOff, .curOn, .hsOn, .line]) (s' := s.ticked) (s := s) rfl).trans
    (rearms_lineStep4 s.ticked) (by decide)).trans (rearms_lineStep5 _) (by decide)
  have h5 : UpdateInv (lineStep5 (lineStep4 s.ticked)) := by
    rw [lineStep4_eq_sched] at hslot ⊢
    exact h.congr rfl rfl rfl rfl (hslot.slot_eq (by decide)) (hslot.slot_eq (by decide))
  exact UpdateInv.setDe (s := (lineStep5 (lineStep4 s.ticked)).setVsync s.tickVsync)
    (h5.congr (by simp) (by simp) (by simp) (by simp) (by simp) (by simp)) _

theorem UpdateInv.evUpdTrans (h : UpdateInv s) (a : Addr) (b : Bool) : UpdateInv (evUpdTrans a b s) := by
  rcases evUpdTrans_cases a b s with ⟨_, _, e⟩ | ⟨_, e⟩ <;> rw [e]
  · exact ⟨h.blank, fun ht => ⟨rfl, (h.transparentOnly ht).2⟩, h.live⟩
  · exact h.congr rfl rfl rfl rfl rfl rfl

/-- The events of the two pulses and of the light pen leave what the update group speaks of. -/
theorem fire_update (s : State) (p : Payload) {t : Tag} (ht : t ∈ [Tag.curOn, .curOff, .hsOn, .hsOff, .lpen]) :
    (s.fire p t).sig.de = s.sig.de ∧ (s.fire p t).ctr.updateReady = s.ctr.updateReady ∧
      (s.fire p t).fatal = s.fatal := by
  cases t
  case curOn => simp [State.fire, evCurOn]
  case curOff => simp [State.fire, evCurOff]
  case hsOn => simp [State.fire, evHsOn]
  case hsOff => simp [State.fire, evHsOff]
  case lpen => exact ⟨rfl, rfl, rfl⟩
  all_goals exact absurd ht (by decide)

theorem UpdateInv.fire_of_pulse (h : UpdateInv s) (p : Payload) {t : Tag}
    (ht : t ∈ [Tag.curOn, .curOff, .hsOn, .hsOff, .lpen]) : UpdateInv (s.fire p t) := by
  have harms : ∀ t ∈ [Tag.curOn, .curOff, .hsOn, .hsOff, .lpen], .updAdr ∉ t.arms ∧ .updTrans ∉ t.arms := by decide
  have hr := rearms_fire s p t
  obtain ⟨hde, hur, hf⟩ := fire_update s p ht
  exact h.congr (eventFrame_fire s p t).cfg hde hur hf (hr.slot_eq (harms t ht).1) (hr.slot_eq (harms t ht).2)

theorem UpdateInv.round (h : UpdateInv s) {t : Tag} {sl : Slot} (hs : s.slot t = some sl) (p : Payload) :
    UpdateInv (s.round t p) := by
  have hc := h.cancel t
  cases t
  case line => exact hc.evLine
  case deOff => exact hc.setDe false
  case updAdr =>
    have ht : s.cfg.transparent = true := by
      by_contra hf
      obtain ⟨_, hn, _⟩ := h.transparentOnly (by simpa using hf)
      rw [hs] at hn
      cases hn
    exact hc.callOnUpdateAddress ht _
  case updTrans => exact hc.evUpdTrans _ _
  all_goals exact hc.fire_of_pulse p (by decide)

theorem lineArmed_round (h : (s.slot .line).isSome = true) (t : Tag) (p : Payload) :
    ((s.round t p).slot .line).isSome = true := by
  by_cases ht : t = .line
  · subst ht
    have hd := (evLine_line (s.cancel .line)).2.2
    show ((evLine (s.cancel .line)).slot .line).isSome = true
    rw [← Option.isSome_map (f := Slot.due)]
    exact Option.isSome_iff_exists.2 ⟨_, hd⟩
  · rw [round_slot s p (Ne.symm ht)]
    · exact h
    · cases t <;> simp_all [Tag.arms]

theorem RunInv.round (h : RunInv s) {t : Tag} {sl : Slot} (hp : s.pickDue = some (t, sl)) :
    RunInv (s.round t sl.payload) := by
  obtain ⟨hs, _⟩ := pickDue_due hp
  have fr := eventFrame_round s t sl.payload
  exact ⟨h.pulse.round hs _, h.display.round t _, h.update.round hs _,
    h.static.congr fr.cfg (by rw [fr.regs]) fr.geo, fr.toKeeps.notPast h.notPast, lineArmed_round h.lineArmed t _⟩

/-- `run_due` ends every operation with the whole invariant. -/
theorem RunInv.inv_runDue (h : RunInv s) : Inv s.runDue :=
  (runDue_induction (P := RunInv) (fun _ _ _ hu _ hp => hu.round hp) h).inv (runDueLeavesNothingDue s)

/-! ### RESET and power-on (R60, R320, R321) -/

/-- With `update_ready` set, a fall of DE moves no slot. -/
theorem setDe_false_of_updateReady (h : s.ctr.updateReady = true) :
    s.setDe false = { s with
      sig := { s.sig with de := false }
      trace := s.trace ++ (if s.sig.de then [.de false] else []) } := by
  rw [setDe_eq, State.deSched, ite_level_false]
  simp [h]

/-- The state that `RESET` leaves, field by field. -/
def State.resetState (s : State) : State :=
  { s with
    regs := RegisterBank.reset
    ctr := Counters.reset
    sig := Signals.reset
    geo := Geometry.reset
    sched :=
      { now := s.sched.now
        seq := s.sched.seq + 1
        slots := { Slots.empty with line := some { due := s.sched.now + 1, seq := s.sched.seq, payload := Payload.empty } } }
    trace := s.trace ++ (if s.sig.de then [.de false] else []) ++ (if s.sig.hsync then [.hsync false] else [])
      ++ (if s.sig.vsync then [.vsync false] else []) ++ (if s.sig.cursor then [.cursor false] else []) }

theorem resetBody_eq (s : State) : s.resetBanks.lowerSignals.clearSlotsAndGeom.schedule .line 1 = s.resetState := by
  rw [State.lowerSignals, setDe_false_of_updateReady (s := s.resetBanks) rfl, setHsync_eq, setVsync_eq, setCur_false_eq,
    ite_level_false, ite_level_false]
  rfl

/-- A slot table with LINE alone. -/
theorem get_line_only (x : Option Slot) {t : Tag} (ht : t ≠ .line) :
    ({ Slots.empty with line := x } : Slots).get t = none := by
  cases t
  case line => exact absurd rfl ht
  all_goals rfl

theorem quiet_resetState (s : State) : s.resetState.quiet = true := by
  refine (quiet_iff _).2 fun t => ?_
  by_cases ht : t = .line
  · subst ht
    simp [State.resetState, Slots.get]
  · rw [State.resetState, get_line_only _ ht, futureSlot_none]

/-- Settles O46: `resetBody_eq`, after which nothing is due. -/
theorem resetGivesThePowerOnBanks : Obligations.ResetGivesThePowerOnBanks := by
  intro s hl
  refine congrArg Host.Outcome.next ((unlessFatal_of_live hl _).trans ?_)
  rw [resetBody_eq, runDue_of_quiet (quiet_resetState s)]
  rfl

/-- The banks at their reset values and LINE alone pending ahead meet every group. -/
theorem RunInv.of_reset (hregs : s.regs = RegisterBank.reset) (hctr : s.ctr = Counters.reset)
    (hsig : s.sig = Signals.reset) (hgeo : s.geo = Geometry.reset) {x : Slot} (hx : s.sched.now ≤ x.due)
    (hslots : s.sched.slots = { Slots.empty with line := some x }) (hlive : s.cfg.wf = true → s.fatal = false) :
    RunInv s := by
  have hnone : ∀ t : Tag, t ≠ .line → s.slot t = none := fun t ht => by
    rw [slot_def, hslots]
    exact get_line_only _ ht
  have hline : s.slot .line = some x := by
    rw [slot_def, hslots]
    rfl
  refine ⟨⟨?_, ?_, ?_⟩, ⟨?_, ?_, ?_⟩, ⟨?_, fun _ => ⟨?_, ?_, ?_⟩, hlive⟩, ⟨?_, ?_, ?_, ?_⟩, fun t => ?_, ?_⟩
  · rw [hnone .hsOff (by decide), hctr]
    rfl
  · rw [hnone .curOff (by decide), hsig]
    rfl
  · rw [hnone .hsOff (by decide), hsig]
    rfl
  · rw [hsig, hctr]
    rfl
  · simp [hsig, Signals.reset]
  · simp [hsig, Signals.reset]
  · simp [hsig, Signals.reset]
  · rw [hctr]
    rfl
  · exact hnone .updAdr (by decide)
  · exact hnone .updTrans (by decide)
  · rw [hregs]
    exact Nat.two_pow_pos _
  · rw [hgeo]
    rfl
  · rw [hgeo]
    exact le_rfl
  · rw [hgeo]
    exact le_rfl
  · by_cases ht : t = .line
    · subst ht
      rw [hline, notPast_some]
      exact decide_eq_true hx
    · rw [hnone t ht, notPast_none]
  · rw [hline]
    rfl

theorem RunInv.reset (h : RunInv s) : RunInv s.resetState :=
  .of_reset rfl rfl rfl rfl (Nat.le_succ _) rfl h.update.live

theorem inv_powerOn (c : Config) : Inv (State.powerOn c) := by
  exact RunInv.inv (.of_reset (x := { due := 1, seq := 0, payload := Payload.empty }) rfl rfl rfl rfl
    (Nat.zero_le 1) rfl fun _ => rfl) (.inr rfl)

/-- Settles O52. -/
theorem powerOnMeetsTheInvariant : Obligations.PowerOnMeetsTheInvariant :=
  ⟨inv_powerOn, inv_powerOn Config.cfgB⟩

/-! ### Every step -/

/-- The close of a write ends with the invariant, whether the fault was raised or not. -/
theorem RunInv.inv_closeWrite (h : RunInv s) : Inv s.closeWrite := by
  cases hf : s.fatal
  · rw [closeWrite_of_live hf]
    exact (h.recompute false).inv_runDue
  · rw [closeWrite_of_fatal hf]
    exact h.inv (.inl hf)

/-- Every operation of the environment keeps the invariant of a running machine. -/
theorem inv_exec_of_live {i : Instr} {t : State} (h : Inv s) (hl : s.fatal = false) (he : i.isEvent = false)
    (hx : exec i s = .next t) : Inv t := by
  have hr := h.runInv hl
  have hq : s.quiet = true := h.quietOrFatal.resolve_left (by simp [hl])
  rcases exec_form i with ⟨_, hf, e⟩ | ⟨_, _, hf, e⟩ | ⟨_, hf, e⟩
  · rw [e, busRead_of_live hl] at hx
    cases hx
    exact ((hr.readEffect hf).rdata _).inv_runDue
  · rw [e, busWrite_of_live hl] at hx
    cases hx
    exact (hr.writeStore hf).inv_closeWrite
  · rw [e, unlessFatal_of_live hl] at hx
    cases hx
    cases hf with
    | sel d => exact (hr.sel d).inv_runDue
    | event hi p t => exact absurd (he.symm.trans hi) Bool.false_ne_true
    | clk => exact (hr.tick hq).inv_runDue
    | reset =>
      show Inv (s.resetBanks.lowerSignals.clearSlotsAndGeom.schedule .line 1).runDue
      rw [resetBody_eq]
      exact hr.reset.inv_runDue
    | lpstb => exact hr.schedule_lpen.inv_runDue
    | scan y => exact (hr.scanBody y).inv_runDue
    | frame y0 y1 => exact (hr.frameRows hl hq y0 y1).inv_runDue
    | restore => exact (hr.recompute true).inv_runDue

/-- The last read byte and the requests are in no clause. -/
theorem Inv.withBus (h : Inv s) (b : Byte) (l : List Request) : Inv { s with rdata := b, inbox := l } :=
  { h with }

theorem inv_exec {i : Instr} {t : State} (h : Inv s) (he : i.isEvent = false) (hx : exec i s = .next t) : Inv t := by
  cases hf : s.fatal
  · exact inv_exec_of_live h hf he hx
  · rw [fatalIsAbsorbing i s hf] at hx
    cases hx
    split
    · exact h.withBus 0 s.inbox
    · exact h

theorem isEvent_decodeWrite (al : Index) (d : Byte) : (decodeWrite al d).isEvent = false := by
  unfold decodeWrite
  split <;> rfl

theorem isEvent_decodeRead (al : Index) : (decodeRead al).isEvent = false := by
  unfold decodeRead
  split <;> rfl

theorem isEvent_decodeBus (k : BitVec 16) : (decodeBus k).isEvent = false := by
  unfold decodeBus
  split
  · rfl
  · rfl
  · exact isEvent_decodeWrite _ _
  · exact isEvent_decodeRead _

theorem isEvent_decodeCall {code : BitVec 3} {args : List Nat} {i : Instr} (h : decodeCall code args = .ok i) :
    i.isEvent = false := by
  unfold decodeCall at h
  split at h <;> cases h <;> rfl

/-- What a request decodes to is no event (R8, R103). -/
theorem isEvent_of_request {r : Request} {al : Index} {i : Instr} (h : decode (r.toOpWord al) = .ok i) :
    i.isEvent = false := by
  cases r with
  | bus t =>
    cases h
    exact isEvent_decodeBus _
  | call code args => exact isEvent_decodeCall h

/-- Settles O51: nothing is due, so the step takes a request, which is no event (`inv_exec`). -/
theorem everyStepKeepsTheInvariant : Obligations.EveryStepKeepsTheInvariant := by
  intro s t h hx
  obtain ⟨hreq, _, hidle, hbad⟩ := stepRunsTheDecodedOperation s
  cases hi : s.inbox with
  | nil =>
    rw [hidle hi h.quietOrFatal] at hx
    cases hx
    exact h
  | cons r rest =>
    cases hd : decode (r.toOpWord s.regs.al) with
    | error e =>
      rw [hbad r rest e hi h.quietOrFatal hd] at hx
      cases hx
    | ok i =>
      rw [hreq r rest i hi h.quietOrFatal hd] at hx
      exact inv_exec (h.withBus s.rdata rest) (isEvent_of_request hd) hx

end Sys2Proof.Machine

/-! # Proofs: the geometry recompute

The closed form of the character height and of the recompute, and the statements about the derived values, their validity
and the restore. -/

namespace Sys2Proof.Machine

variable {s : State}

/-! ### The derived values (R197, R240, R241) -/

theorem interlace_eq_three_iff (s : State) : s.interlace = 3 ↔ s.regs.mode.toNat % 4 = 3 := by
  have h : s.interlace.toNat = s.regs.mode.toNat % 4 := BitVec.extractLsb'_toNat ..
  rw [← h]
  exact BitVec.toNat_inj.symm

/-- The character height (R197). -/
theorem ch_eq (s : State) :
    s.ch = s.regs.maxRas.toNat + (if s.regs.mode.toNat % 4 = 3 then s.cfg.adjInt else s.cfg.adjNonint) := by
  rw [State.ch, State.adj]
  simp only [interlace_eq_three_iff]

/-! ### The recompute (R242, R245) -/

/-- The record of a recompute, emitted when the derived values are valid (R244). -/
def State.geomRecords (s : State) : List Output :=
  if s.deriveGeom.isValid then [.geom (s.geomRecord s.deriveGeom)] else []

theorem storeGeom_emitGeom (s : State) :
    (s.emitGeom s.deriveGeom).storeGeom s.deriveGeom = { s with
      geo := { nums := s.deriveGeom, valid := s.deriveGeom.isValid }
      trace := s.trace ++ s.geomRecords } := by
  unfold State.emitGeom State.geomRecords
  split
  · rfl
  · rw [List.append_nil]
    rfl

theorem recompute_of_unchanged (h : s.deriveGeom = s.geo.nums) : s.recompute false = s := by
  rcases recompute_cases s false with ⟨_, _, e⟩ | ⟨hr, _⟩ | ⟨_, hne, _⟩
  · exact e
  · cases hr
  · exact absurd h hne

/-- A restore rewrites the cache and sends its record (R246). -/
theorem recompute_restore (s : State) :
    s.recompute true = { s with
      geo := { nums := s.deriveGeom, valid := s.deriveGeom.isValid }
      trace := s.trace ++ s.geomRecords } := by
  rcases recompute_cases s true with ⟨hr, _⟩ | ⟨_, e⟩ | ⟨hr, _⟩
  · cases hr
  · rw [e, storeGeom_emitGeom]
  · cases hr

/-- A change of the values does what a restore does and restarts the line (R245). -/
theorem recompute_of_changed (h : s.deriveGeom ≠ s.geo.nums) :
    s.recompute false = (s.recompute true).restartLine := by
  rcases recompute_cases s false with ⟨_, heq, _⟩ | ⟨hr, _⟩ | ⟨_, _, e⟩
  · exact absurd heq h
  · cases hr
  · rw [e, storeGeom_emitGeom, recompute_restore]

/-- Settles O28: the formulas by `ch_eq`, `hsw_eq` and `vsw_eq`, the state by the three closed forms of the recompute. -/
theorem recomputeRestartsTheLineOnlyOnAChange : Obligations.RecomputeRestartsTheLineOnlyOnAChange := by
  intro s restore hpix ch hsw vsw hTotal vTotal g record next
  have hg : s.deriveGeom = g := by
    have hch : (s.ch : Int) = ch := by
      rw [ch_eq, Nat.cast_add]
    rw [State.deriveGeom, hch, hsw_eq, vsw_eq]
  have hrec : s.geomRecords = if g.isValid then [.geom record] else [] := by
    rw [State.geomRecords, hg]
    rfl
  refine ⟨hg, ?_, ?_⟩
  · rintro rfl hsame
    exact recompute_of_unchanged (hg.trans hsame)
  · intro hchange
    cases restore with
    | true => rw [recompute_restore, hg, hrec]; rfl
    | false =>
      have hne : s.deriveGeom ≠ s.geo.nums := hg ▸ hchange.resolve_left Bool.false_ne_true
      rw [recompute_of_changed hne, recompute_restore, hg, hrec]
      rfl

/-- The values are of the registers and the configuration alone. -/
theorem deriveGeom_congr {t : State} (hcfg : t.cfg = s.cfg) (hregs : t.regs = s.regs) :
    t.deriveGeom = s.deriveGeom := by
  unfold State.deriveGeom State.ch State.adj State.interlace State.hsw State.vsw
  rw [hcfg, hregs]

/-- After any recompute the cache holds the derived values. -/
theorem recompute_nums (s : State) (r : Bool) : (s.recompute r).geo.nums = s.deriveGeom := by
  rcases recompute_cases s r with ⟨_, heq, e⟩ | ⟨_, e⟩ | ⟨_, _, e⟩ <;> rw [e]
  · exact heq.symm
  · rfl
  · rfl

/-- Settles O29. -/
theorem recomputeIsIdempotent : Obligations.RecomputeIsIdempotent := fun s r =>
  recompute_of_unchanged ((deriveGeom_congr (recompute_cfg s r) (recompute_regs s r)).trans (recompute_nums s r).symm)

/-- Settles O50: a restore moves no slot, so nothing is due after it. -/
theorem restoreResendsTheGeometry : Obligations.RestoreResendsTheGeometry := by
  rintro s ⟨hl, hq⟩
  refine congrArg Host.Outcome.next ((unlessFatal_of_live hl _).trans ?_)
  show (s.recompute true).runDue = _
  rw [runDue_of_quiet (quiet_recompute hq true), recompute_restore]
  rfl

/-! ### Validity (R243) -/

/-- One axis of the validity test: with a sync of positive width, clamped at the total, the five clauses say that something
is displayed, that it fits, and that the sync starts inside. -/
theorem axis_valid_iff {total shown on width : Int} (hw : 0 < width) (hon : 0 ≤ on) :
    (total > 0 ∧ 0 ≤ shown - 1 ∧ shown - 1 < total ∧ on ≤ total ∧ on ≠ min (on + width) total) ↔
      0 < shown ∧ shown ≤ total ∧ on < total := by
  omega

/-- The test, axis by axis. -/
theorem GeomNums.isValid_iff (g : GeomNums) :
    g.isValid = true ↔
      (g.hTotalPx > 0 ∧ 0 ≤ g.maxX ∧ g.maxX < g.hTotalPx ∧ g.hsOn ≤ g.hTotalPx ∧ g.hsOn ≠ g.hsOff) ∧
      (g.vTotalPx > 0 ∧ 0 ≤ g.maxY ∧ g.maxY < g.vTotalPx ∧ g.vsOn ≤ g.vTotalPx ∧ g.vsOn ≠ g.vsOff) := by
  rw [GeomNums.isValid, decide_eq_true_eq]
  constructor
  · rintro ⟨hh, hv, hx, hxt, hy, hyt, hs, vs, hne, vne⟩
    exact ⟨⟨hh, hx, hxt, hs, hne⟩, hv, hy, hyt, vs, vne⟩
  · rintro ⟨⟨hh, hx, hxt, hs, hne⟩, hv, hy, hyt, vs, vne⟩
    exact ⟨hh, hv, hx, hxt, hy, hyt, hs, vs, hne, vne⟩

/-- The two axes of the test, sync widths positive. -/
theorem deriveGeom_isValid_iff (hpix : 0 < s.cfg.hpix) :
    s.deriveGeom.isValid = true ↔
      (0 < s.regs.hdisp.toNat * s.cfg.hpix ∧ s.regs.hdisp.toNat * s.cfg.hpix ≤ (s.regs.htotal.toNat + 1) * s.cfg.hpix ∧
        s.regs.hsyncPos.toNat * s.cfg.hpix < (s.regs.htotal.toNat + 1) * s.cfg.hpix) ∧
      (0 < s.regs.vdisp.toNat * s.ch ∧
        s.regs.vdisp.toNat * s.ch ≤ (s.regs.vtotal.toNat + 1) * s.ch + s.regs.vtotalAdj.toNat ∧
        s.regs.vsyncPos.toNat * s.ch < (s.regs.vtotal.toNat + 1) * s.ch + s.regs.vtotalAdj.toNat) := by
  have hhsw : (0 : Int) < s.hsw * s.cfg.hpix := by exact_mod_cast Nat.mul_pos (hsw_bounds s).1 hpix
  have hvsw : (0 : Int) < s.vsw := by exact_mod_cast (vsw_bounds s).1
  have hh := axis_valid_iff (total := (s.regs.htotal.toNat + 1) * s.cfg.hpix)
    (shown := s.regs.hdisp.toNat * s.cfg.hpix) (on := s.regs.hsyncPos.toNat * s.cfg.hpix) hhsw (by positivity)
  have hv := axis_valid_iff (total := (s.regs.vtotal.toNat + 1) * s.ch + s.regs.vtotalAdj.toNat)
    (shown := s.regs.vdisp.toNat * s.ch) (on := s.regs.vsyncPos.toNat * s.ch) hvsw (by positivity)
  rw [GeomNums.isValid_iff]
  refine (Iff.and hh hv).trans ?_
  norm_cast

/-- Settles O30: a character has a positive width and a positive height, which cancel. -/
theorem validityOfDerivedGeometry : Obligations.ValidityOfDerivedGeometry := by
  refine fun s => ⟨ch_eq s, fun hwf => ?_⟩
  have hpix : 0 < s.cfg.hpix := by
    simp only [Config.wf, Bool.and_eq_true, decide_eq_true_eq] at hwf
    exact hwf.1.1.2
  rw [deriveGeom_isValid_iff hpix, Nat.mul_pos_iff_of_pos_right hpix, Nat.mul_pos_iff_of_pos_right (ch_pos hwf),
    Nat.mul_le_mul_right_iff hpix, Nat.mul_lt_mul_right hpix]
  tauto

end Sys2Proof.Machine

/-! # Proofs: the scanline bridge

The rows and the running address of a run of scanlines as functions of the bridge's own view of the state, and the
statements about `SCAN` and `FRAME`. -/

namespace Sys2Proof.Machine

variable {s s' : State}

/-! ### The bridge's view -/

/-- Scanline `y` is the bottom raster row of a character. -/
theorem bottomRow_iff (s : State) (y : Nat) : ((y % s.ch : Nat) : Int) = (s.ch : Int) - 1 ↔ y % s.ch + 1 = s.ch := by
  omega

/-- The running address after scanline `y` begun at `a`. -/
def State.nextCda (s : State) (y : Nat) (a : Addr) : Addr :=
  if y % s.ch + 1 = s.ch then BitVec.ofNat 14 (a.toNat + s.regs.hdisp.toNat) else a

/-- The rows of the `n` scanlines from `y` on, begun at `a`. -/
def State.rowsFrom (s : State) : Nat → Nat → Addr → List Output
  | 0, _, _ => []
  | n + 1, y, a => .row ((s.withCda a).rowRecord y) :: s.rowsFrom n (y + 1) (s.nextCda y a)

/-- The running address after these scanlines. -/
def State.cdaFrom (s : State) : Nat → Nat → Addr → Addr
  | 0, _, a => a
  | n + 1, y, a => s.cdaFrom n (y + 1) (s.nextCda y a)

/-- The state with rows appended and another running address: all that the bridge writes. -/
def State.drawn (s : State) (rows : List Output) (a : Addr) : State :=
  { s with trace := s.trace ++ rows, ctr := { s.ctr with cda := a } }

theorem Ready.drawn (h : s.Ready) (rows : List Output) (a : Addr) : (s.drawn rows a).Ready := h

theorem drawn_drawn (s : State) (l m : List Output) (a b : Addr) : (s.drawn l a).drawn m b = s.drawn (l ++ m) b := by
  rw [State.drawn, State.drawn, State.drawn, ← List.append_assoc]

/-! ### What the bridge reads -/

/-- Agreement on all that the bridge reads but the running address. -/
structure SameView (s s' : State) : Prop where
  cfg : s.cfg = s'.cfg
  regs : s.regs = s'.regs
  geo : s.geo = s'.geo
  cursorState : s.ctr.cursorState = s'.ctr.cursorState

theorem SameView.ch (h : SameView s s') : s.ch = s'.ch := by
  rw [ch_eq, ch_eq, h.cfg, h.regs]

theorem SameView.nextCda (h : SameView s s') (y : Nat) (a : Addr) : s.nextCda y a = s'.nextCda y a := by
  rw [State.nextCda, State.nextCda, h.ch, h.regs]

theorem SameView.cursorVisible (h : SameView s s') (r : Nat) (a : Addr) :
    s.cursorVisible r a = s'.cursorVisible r a := by
  rw [Bool.eq_iff_iff, cursorVisible_iff, cursorVisible_iff, State.curStartRow, State.curStartRow, h.ch, h.cfg, h.regs,
    h.cursorState]

theorem SameView.rowRecord (h : SameView s s') (hcda : s.ctr.cda = s'.ctr.cda) (y : Nat) :
    s.rowRecord y = s'.rowRecord y := by
  rw [State.rowRecord, State.rowRecord, State.rowAddress, State.rowAddress, State.rowCol, State.rowCol,
    h.cursorVisible, h.ch, h.regs, h.geo, hcda]

theorem SameView.rowsFrom (h : SameView s s') (n y : Nat) (a : Addr) : s.rowsFrom n y a = s'.rowsFrom n y a := by
  induction n generalizing y a with
  | zero => rfl
  | succ n ih =>
    have hrow : (s.withCda a).rowRecord y = (s'.withCda a).rowRecord y :=
      SameView.rowRecord (s := s.withCda a) (s' := s'.withCda a) ⟨h.cfg, h.regs, h.geo, h.cursorState⟩ rfl y
    rw [State.rowsFrom, State.rowsFrom, hrow, h.nextCda, ih]

theorem SameView.cdaFrom (h : SameView s s') (n y : Nat) (a : Addr) : s.cdaFrom n y a = s'.cdaFrom n y a := by
  induction n generalizing y a with
  | zero => rfl
  | succ n ih => rw [State.cdaFrom, State.cdaFrom, h.nextCda, ih]

theorem sameView_drawn (s : State) (rows : List Output) (a : Addr) : SameView (s.drawn rows a) s := ⟨rfl, rfl, rfl, rfl⟩

/-! ### The rows of a run -/

@[simp] theorem length_rowsFrom (s : State) (n y : Nat) (a : Addr) : (s.rowsFrom n y a).length = n := by
  induction n generalizing y a with
  | zero => rfl
  | succ n ih => rw [State.rowsFrom, List.length_cons, ih]

theorem rowsFrom_head? (s : State) {n : Nat} (y : Nat) (a : Addr) (h : 0 < n) :
    (s.rowsFrom n y a)[0]? = some (.row ((s.withCda a).rowRecord y)) := by
  cases n with
  | zero => exact absurd h (Nat.lt_irrefl 0)
  | succ n => rfl

/-- The `k`-th row is that of scanline `y + k`. -/
theorem rowsFrom_getElem? (s : State) {n k : Nat} (y : Nat) (a : Addr) (h : k < n) :
    ∃ b, (s.rowsFrom n y a)[k]? = some (.row ((s.withCda b).rowRecord (y + k))) := by
  induction n generalizing k y a with
  | zero => exact absurd h (Nat.not_lt_zero k)
  | succ n ih =>
    cases k with
    | zero => exact ⟨a, rfl⟩
    | succ k =>
      obtain ⟨b, hb⟩ := ih (y + 1) (s.nextCda y a) (Nat.lt_of_succ_lt_succ h)
      exact ⟨b, by rw [State.rowsFrom, List.getElem?_cons_succ, hb, Nat.add_right_comm, Nat.add_assoc]⟩

/-! ### One scanline and a run of them (R260, R261) -/

theorem scanRow_eq_drawn (h : s.Ready) (y : Nat) :
    s.scanRow y = s.drawn [.row (s.rowRecord y)] (s.nextCda y s.ctr.cda) := by
  rw [scanRow_of_quiet h.1 h.2, State.advanceCda, State.nextCda]
  simp only [emit_ctr, emit_regs, add_setWidth_eq_ofNat]
  show (if ((y % s.ch : Nat) : Int) = (s.ch : Int) - 1 then _ else _) = _
  simp only [bottomRow_iff]
  split <;> rfl

theorem scanRows_eq_drawn (h : s.Ready) (n y : Nat) :
    scanRows n y s = s.drawn (s.rowsFrom n y s.ctr.cda) (s.cdaFrom n y s.ctr.cda) := by
  induction n generalizing s y with
  | zero => rw [scanRows, State.rowsFrom, State.cdaFrom, State.drawn, List.append_nil]
  | succ n ih =>
    have hv := sameView_drawn s [.row (s.rowRecord y)] (s.nextCda y s.ctr.cda)
    rw [scanRows, scanRow_eq_drawn h, ih (Ready.drawn h _ _), drawn_drawn, hv.rowsFrom, hv.cdaFrom]
    rfl

/-- One more scanline is one more `SCAN`. -/
theorem scanRows_succ (n y : Nat) (s : State) : scanRows (n + 1) y s = (scanRows n y s).scanRow (y + n) := by
  induction n generalizing s y with
  | zero => rfl
  | succ n ih =>
    rw [scanRows, ih, scanRows, Nat.add_right_comm, Nat.add_assoc]

theorem exec_scan (s : State) (y : Nat) : exec (.scan y) s = .next (s.scanRow y) := rfl

theorem ready_frameCda (h : s.Ready) (y : Nat) : (s.frameCda y).Ready :=
  ⟨(frameCda_fatal s y).trans h.1, (quiet_congr (frameCda_sched s y)).trans h.2⟩

theorem trace_drawn_frameCda (s : State) (y : Nat) (l : List Output) (a : Addr) :
    ((s.frameCda y).drawn l a).trace = s.trace ++ l :=
  congrArg (· ++ l) (frameCda_trace s y)

theorem exec_frame_of_invalid (h : s.Ready) (hv : s.geo.valid = false) (y0 y1 : Nat) :
    exec (.frame y0 y1) s = .next s := by
  refine congrArg Host.Outcome.next ((unlessFatal_of_live h.1 _).trans ?_)
  simp only [hv, Bool.false_eq_true, if_false]
  exact runDue_of_quiet h.2

theorem exec_frame_of_valid (h : s.Ready) (hv : s.geo.valid = true) (y0 y1 : Nat) :
    exec (.frame y0 y1) s = .next (scanRows (y1 + 1 - y0) y0 (s.frameCda y0)) := by
  have hu := ready_frameCda h y0
  refine congrArg Host.Outcome.next ((unlessFatal_of_live h.1 _).trans ?_)
  simp only [hv, if_true]
  rw [scanRows_eq_drawn hu]
  exact runDue_of_quiet (Ready.drawn hu _ _).2

/-! ### The display memory address (R260, R100) -/

theorem toNat_rowAddress_of_rowCol (h : s.regs.mode.getLsbD 2 = true) (y : Nat) :
    (s.rowAddress y).toNat = (s.regs.dispStart.toNat + y / s.ch % 256 * 256) % 65536 := by
  have hd := s.regs.dispStart.isLt
  rw [State.rowAddress, State.rowCol, if_pos h, BitVec.toNat_add, BitVec.toNat_setWidth, BitVec.toNat_ofNat]
  omega

theorem toNat_rowAddress_of_linear (h : s.regs.mode.getLsbD 2 = false) (y : Nat) :
    (s.rowAddress y).toNat = s.ctr.cda.toNat := by
  have hd := s.ctr.cda.isLt
  rw [State.rowAddress, State.rowCol, h, if_neg Bool.false_ne_true, BitVec.toNat_setWidth]
  omega

/-! ### The statements -/

/-- Settles O48, field by field from `scanRow_eq_drawn`. -/
theorem scanEmitsOneRow : Obligations.ScanEmitsOneRow := by
  intro s y h
  refine ⟨s.rowRecord y, ?_, rfl, rfl, rfl, fun hm => toNat_rowAddress_of_linear hm y,
    fun hm => toNat_rowAddress_of_rowCol hm y, fun hc => ?_, fun hc => ?_, ?_, rfl, rfl⟩
  · rw [exec_scan, scanRow_eq_drawn h]
    rfl
  · have hx : (s.rowRecord y).cursorX = (s.regs.cursorAddr.toNat : Int) - s.ctr.cda.toNat := if_pos hc
    obtain ⟨_, hlo, hhi, _⟩ := (cursorVisible_iff s _ _).1 hc
    rw [hx]
    omega
  · exact if_neg (by rw [hc]; exact Bool.false_ne_true)
  · exact decide_eq_true_iff

/-- Settles O49: a run of scanlines is `scanRows_eq_drawn`, its last one `scanRows_succ`. -/
theorem frameEmitsItsRowsInOrder : Obligations.FrameEmitsItsRowsInOrder := by
  intro s y0 y1 h
  have hu := ready_frameCda h y0
  refine ⟨fun hv => exec_frame_of_invalid h hv y0 y1, fun hlt => ?_, fun hv => ?_, fun hv hle => ?_⟩
  · cases hv : s.geo.valid
    · exact exec_frame_of_invalid h hv y0 y1
    · have hcda : s.frameCda y0 = s := if_neg (Nat.ne_zero_of_lt hlt)
      rw [exec_frame_of_valid h hv, Nat.sub_eq_zero_of_le hlt, hcda]
      rfl
  · rw [exec_frame_of_valid h hv, Nat.add_sub_cancel_left]
    rfl
  · have hn : y1 + 1 + 1 - y0 = (y1 + 1 - y0) + 1 := Nat.sub_add_comm (Nat.le_succ_of_le hle)
    refine ⟨_, (s.frameCda y0).rowsFrom (y1 + 1 - y0) y0 (s.frameCda y0).ctr.cda, exec_frame_of_valid h hv y0 y1, ?_,
      ?_, fun k hk => ?_, fun h0 hrc => ?_, ?_⟩
    · rw [scanRows_eq_drawn hu]
      unfold State.frameCda
      split <;> rfl
    · rw [length_rowsFrom]
      omega
    · obtain ⟨b, hb⟩ := rowsFrom_getElem? (s.frameCda y0) y0 (s.frameCda y0).ctr.cda ((length_rowsFrom ..).symm ▸ hk)
      refine ⟨_, hb, rfl, ?_⟩
      show (y0 + k) % (s.frameCda y0).ch = _
      rw [ch_eq, ch_eq, frameCda_regs, frameCda_cfg]
    · refine ⟨_, rowsFrom_head? _ _ _ (Nat.sub_pos_of_lt (Nat.lt_succ_of_le hle)), ?_⟩
      have hlin : ((s.frameCda y0).withCda (s.frameCda y0).ctr.cda).regs.mode.getLsbD 2 = false := by
        rw [withCda_regs, frameCda_regs]
        exact hrc
      refine (toNat_rowAddress_of_linear hlin y0).trans ?_
      rw [withCda_ctr, State.frameCda, if_pos h0]
    · rw [exec_frame_of_valid h hv, hn, scanRows_succ, exec_scan, Nat.add_sub_cancel' (Nat.le_succ_of_le hle)]

/-- Settles O58: the rows and the address are functions of the view (`SameView.rowsFrom`, `SameView.cdaFrom`). -/
theorem bridgeIgnoresTheEngine : Obligations.BridgeIgnoresTheEngine := by
  intro s s' y0 y1 h h' hcfg hregs hgeo hcda hcur
  cases hv : s.geo.valid
  · refine ⟨s, s', [], exec_frame_of_invalid h hv y0 y1, exec_frame_of_invalid h' (hgeo ▸ hv) y0 y1, ?_, ?_, hcda⟩ <;>
      rw [List.append_nil]
  · have view : SameView (s.frameCda y0) (s'.frameCda y0) := by
      unfold State.frameCda
      split <;> exact ⟨hcfg, hregs, hgeo, hcur⟩
    have hstart : (s.frameCda y0).ctr.cda = (s'.frameCda y0).ctr.cda := by
      unfold State.frameCda
      split
      · exact congrArg RegisterBank.dispStart hregs
      · exact hcda
    have e := exec_frame_of_valid h hv y0 y1
    have e' := exec_frame_of_valid h' (hgeo ▸ hv) y0 y1
    rw [scanRows_eq_drawn (ready_frameCda h y0)] at e
    rw [scanRows_eq_drawn (ready_frameCda h' y0), ← view.rowsFrom, ← view.cdaFrom, ← hstart] at e'
    exact ⟨_, _, (s.frameCda y0).rowsFrom (y1 + 1 - y0) y0 (s.frameCda y0).ctr.cda, e, e', trace_drawn_frameCda ..,
      trace_drawn_frameCda .., rfl⟩

end Sys2Proof.Machine

/-! # Proofs: the clock, the strobe, the engine's view, power-on -/

namespace Sys2Proof.Machine

variable {s : State}

/-! ### Pins (R182, R270) -/

theorem tick_eq (s : State) :
    s.tick = { s with
      sched := { s.sched with now := s.sched.now + 1 }
      ctr := { s.ctr with
        cc := BitVec.ofNat 8 (s.ctr.cc.toNat + 1)
        hswCtr := if (s.slot .hsOff).isSome then BitVec.ofNat 5 (s.ctr.hswCtr.toNat + 1) else s.ctr.hswCtr } } := by
  rw [State.tick, add_one_eq_ofNat, add_one_eq_ofNat]

/-- Settles O45. -/
theorem clkCountsThenFires : Obligations.ClkCountsThenFires := by
  intro s hl u
  have hu : exec .clk s = .next u.runDue := by
    rw [exec_clk_of_live hl, tick_eq]
  exact ⟨hu, fun hq => by rw [hu, runDue_of_quiet hq]⟩

theorem schedule_get_of_ne (s : State) {t u : Tag} (h : u ≠ t) (d : Nat) :
    (s.schedule t d).sched.slots.get u = s.sched.slots.get u :=
  (Slots.get_set _ t u _).trans (if_neg h)

theorem exec_lpstb_of_ready (h : s.Ready) : exec .lpstb s = .next (s.schedule .lpen 1) := by
  refine congrArg Host.Outcome.next ((unlessFatal_of_live h.1 _).trans ?_)
  exact runDue_of_quiet (quiet_schedule h.2 _ Nat.one_pos)

/-- Settles O47: both strobes schedule the same slot. -/
theorem lightPenStrobeOverwrites : Obligations.LightPenStrobeOverwrites := by
  intro s h
  have h' : (s.schedule .lpen 1).Ready := ⟨h.1, quiet_schedule h.2 _ Nat.one_pos⟩
  refine ⟨exec_lpstb_of_ready h, _, exec_lpstb_of_ready h', rfl, fun u hu => ?_⟩
  exact (schedule_get_of_ne _ hu 1).trans (schedule_get_of_ne s hu 1)

/-! ### The engine does not read `cda` (R334, R262) -/

theorem setDe_withCda (s : State) (a : Addr) (v : Bool) : (s.withCda a).setDe v = (s.setDe v).withCda a := by
  rw [setDe_eq, setDe_eq]
  rfl

theorem setHsync_withCda (s : State) (a : Addr) (v : Bool) : (s.withCda a).setHsync v = (s.setHsync v).withCda a := by
  rw [setHsync_eq, setHsync_eq]
  rfl

theorem setCur_withCda (s : State) (a : Addr) (v : Bool) : (s.withCda a).setCur v = (s.setCur v).withCda a := by
  rw [setCur_eq, setCur_eq]
  rfl

theorem callOnUpdateAddress_withCda (s : State) (a : Addr) (b : Bool) :
    (s.withCda a).callOnUpdateAddress b = (s.callOnUpdateAddress b).withCda a := by
  cases h : s.cfg.updHandler
  · rw [callOnUpdateAddress_of_noHandler h, callOnUpdateAddress_of_noHandler (s := s.withCda a) h]
    rfl
  · rw [callOnUpdateAddress_of_handler h, callOnUpdateAddress_of_handler (s := s.withCda a) h]
    rfl

theorem ticked_withCda (s : State) (a : Addr) : (s.withCda a).ticked = s.ticked.withCda a := rfl

theorem lineArmed_withCda (s : State) (a : Addr) : (s.withCda a).lineArmed = s.lineArmed := by
  rw [lineArmed_eq, lineArmed_eq]
  rfl

theorem evLine_withCda (s : State) (a : Addr) : evLine (s.withCda a) = (evLine s).withCda a := by
  rw [evLine_closed, evLine_closed, ticked_withCda, lineArmed_withCda]
  rfl

theorem evUpdTrans_withCda (s : State) (a x : Addr) (b : Bool) :
    evUpdTrans x b (s.withCda a) = (evUpdTrans x b s).withCda a := by
  rw [evUpdTrans_eq, evUpdTrans_eq, apply_ite (State.withCda · a)]
  rfl

theorem fire_withCda (s : State) (a : Addr) (p : Payload) (t : Tag) :
    (s.withCda a).fire p t = (s.fire p t).withCda a := by
  cases t with
  | line => exact evLine_withCda s a
  | deOff => exact setDe_withCda s a false
  | curOn => exact congrArg (·.schedule .curOff 1) (setCur_withCda s a true)
  | curOff => exact setCur_withCda s a false
  | hsOn =>
    have h := setHsync_withCda { s with ctr := { s.ctr with hswCtr := 0 } } a true
    exact (evHsOn_eq _).trans ((congrArg (·.schedule .hsOff s.hsw) h).trans
      (congrArg (State.withCda · a) (evHsOn_eq s)).symm)
  | hsOff => exact setHsync_withCda s a false
  | lpen => rfl
  | updAdr => exact callOnUpdateAddress_withCda s a _
  | updTrans => exact evUpdTrans_withCda s a _ _

theorem runDueLoop_withCda (n : Nat) (s : State) (a : Addr) :
    runDueLoop n (s.withCda a) = (runDueLoop n s).withCda a := by
  induction n generalizing s with
  | zero => rfl
  | succ n ih =>
    cases hf : s.fatal with
    | true => rw [runDueLoop_of_fatal hf, runDueLoop_of_fatal (s := s.withCda a) hf]
    | false =>
      cases hp : s.pickDue with
      | none =>
        have hq := pickDue_eq_none_iff.1 hp
        rw [runDueLoop_of_quiet hq, runDueLoop_of_quiet (s := s.withCda a) hq]
      | some x =>
        rw [runDueLoop_round hf hp, runDueLoop_round (s := s.withCda a) hf hp, ← ih, ← fire_withCda]
        rfl

/-- Settles O57: the count and every round of `run_due` commute with a change of `cda`. -/
theorem engineIgnoresTheBridgeAddress : Obligations.EngineIgnoresTheBridgeAddress := by
  intro s a
  cases hf : s.fatal
  · exact ⟨_, exec_clk_of_live hf, (exec_clk_of_live (s := s.withCda a) hf).trans
      (congrArg Host.Outcome.next (runDueLoop_withCda _ s.tick a))⟩
  · exact ⟨s, exec_clk_of_fatal hf, exec_clk_of_fatal (s := s.withCda a) hf⟩

/-! ### Power-on and construction (R6, R320) -/

/-- Settles O59. -/
theorem powerOnValues : Obligations.PowerOnValues := fun _ =>
  ⟨rfl, rfl, rfl, rfl, rfl, rfl, rfl, rfl, rfl, rfl, rfl, fun _ ht => get_line_only _ ht, rfl⟩

/-- A configuration is well formed exactly when it meets the conditions of R6. -/
theorem config_wf_iff (c : Config) :
    c.wf = true ↔ 1 ≤ c.adjNonint ∧ 1 ≤ c.adjInt ∧ 1 ≤ c.hpix ∧ 1 ≤ c.updDelay ∧
      (c.transparent = true → c.updHandler = true) := by
  rw [Config.wf, Bool.and_eq_true, Bool.and_eq_true, Bool.and_eq_true, Bool.and_eq_true]
  cases c.transparent <;> simp [and_assoc]

/-- Settles O60. -/
theorem constructionRefusesIllFormed : Obligations.ConstructionRefusesIllFormed := fun c =>
  ⟨fun h => if_pos ((config_wf_iff c).2 h), fun h => if_neg (mt (config_wf_iff c).1 h)⟩

end Sys2Proof.Machine
